-- ==== Sys2Proof/Word.lean ====
section
/-! DEFINITION. The widths and line levels the spec works in (spec/00_scope.md section 8). -/

namespace Sys2Proof

/-- An unsigned 8-bit value: a raw byte, a pulse count (10_state.md R28, R29). -/
abbrev Byte := BitVec 8

/-- The 40 bits of a frame, bit 39 the first received (10_state.md R29, 20_memory.md R62). -/
abbrev Frame := BitVec 40

/-- A host-visible register's value (10_state.md R41 to R47). -/
abbrev HostWord := BitVec 32

/-- A line level: LOW = 0, HIGH = 1 (00_scope.md section 8). -/
inductive Level where
  | low
  | high
  deriving DecidableEq, Repr, Inhabited

/-- The bit that stands for a level. -/
def Level.bit : Level → BitVec 1
  | .low => 0#1
  | .high => 1#1

/-- One entry of the pulse buffer: how long the line stayed low, then high, in ticks as counted by
CNT (10_state.md R28). -/
structure Pulse where
  low  : Byte
  high : Byte
  deriving DecidableEq, Repr, Inhabited

/-- An exact rational number, `scaled / scale` (44_variant_decoders.md R199, R201 to R203). -/
structure Quantity where
  scaled : Int
  scale  : Nat
  deriving DecidableEq, Repr

/-- The rational number a quantity is. -/
def Quantity.value (q : Quantity) : ℚ := (q.scaled : ℚ) / (q.scale : ℚ)

end Sys2Proof
end

