-- ==== Sys2Proof/Config.lean ====
section
/-! DEFINITION. The constants an instance is built with (spec/00_scope.md R5), the input ports of a tick
(spec/10_state.md R23) and the free value that stands for inputs nobody has scripted (20_memory.md R66). -/

namespace Sys2Proof

/-- Which variant decoder is built in: 0 = INT ("11-style"), 1 = FIX ("22-style") (R5). -/
inductive Variant where
  | int
  | fix
  deriving DecidableEq, Repr, Inhabited

/-- VARIANT as the bit CFG shows (10_state.md R42). -/
def Variant.bit : Variant → BitVec 1
  | .int => 0#1
  | .fix => 1#1

/-- Which Interrupt Guard is built in: 0 = NOOP, 1 = REAL (R5). -/
inductive GuardImpl where
  | noop
  | real
  deriving DecidableEq, Repr, Inhabited

/-- GUARD_IMPL as the bit CFG shows (10_state.md R42). -/
def GuardImpl.bit : GuardImpl → BitVec 1
  | .noop => 0#1
  | .real => 1#1

/-- A legal length of a hold. A configuration outside 1 to 32767 is rejected: it cannot be built
(R5; 93_implementation_defined.md U9; log 3). -/
structure HoldTicks where
  ticks : Nat
  legal : 1 ≤ ticks ∧ ticks ≤ 32767
  deriving DecidableEq, Repr

/-- The constants of one instance (R5). No step changes them (20_memory.md R74). -/
structure Config where
  variant    : Variant
  guardImpl  : GuardImpl
  tStartLow  : HoldTicks
  tStartHigh : HoldTicks
  deriving DecidableEq, Repr

/-- The defaults of R5. VARIANT has none ("must be chosen"): INT here is a DESIGN CHOICE (log 2). -/
def Config.default : Config where
  variant := .int
  guardImpl := .noop
  tStartLow := ⟨18000, by decide⟩
  tStartHigh := ⟨40, by decide⟩

/-- TIMEOUT_TICKS, the largest elapsed count a wait can return (R5). -/
def timeoutTicks : Byte := 255#8

/-- N_BITS, pulse pairs per read (R5). -/
def nBits : Nat := 40

/-- N_BYTES, raw bytes per read (R5). -/
def nBytes : Nat := 5

/-- HUM_MAX, the largest legal humidity in tenths of a percent (R5). -/
def humMax : Nat := 1000

/-- The input ports, sampled once per tick (10_state.md R23). -/
structure Inputs where
  rst      : Bool
  start    : Bool
  pinIn    : Level
  pinFault : Bool
  deriving DecidableEq, Repr, Inhabited

/-- What the environment and the host do next: the inputs of one tick, or the host's read of one of
the eight register numbers at a tick boundary (10_state.md R47, 20_memory.md R68; log 1, 16). -/
inductive Event where
  | tick (inputs : Inputs)
  | hostRead (register : BitVec 3)
  deriving DecidableEq, Repr

/-- FREE VALUE: the inputs of tick number n where no script gives them. "A model must treat the two inputs
as free inputs of every step" (20_memory.md R66; log 1). -/
opaque Config.freeInputs : Nat → Inputs

end Sys2Proof
end

