-- ==== Sys2Proof/Syntax.lean ====
section
/-! DEFINITION. The block's enumerations and its 33 operations, one constructor per row of
spec/opcode_table.json (spec/30_encoding.md R90, R106, R109). -/

namespace Sys2Proof

/-- PHASE, the state of the sequencer (10_state.md R24). The reserved codes 13 to 15 are not values of
the type (30_encoding.md R101: "A model's PHASE type should simply not have them"; log 4). -/
inductive Phase where
  | idle
  | startLow
  | startHigh
  | ackFall
  | ackRise
  | ackEnd
  | bitLow
  | bitHigh
  | decideBits
  | check
  | interp
  | range
  | success
  deriving DecidableEq, Repr, Inhabited

/-- CODE, the outcome of the most recent read transaction (10_state.md R31). 7 is reserved and never
written, so it is no value of the type (log 5). -/
inductive Code where
  | none
  | ok
  | notPresent
  | checksumMismatch
  | invalidData
  | timeout
  | pinFault
  deriving DecidableEq, Repr, Inhabited

/-- The five error kinds, a closed and flat set (60_exceptions.md R210). -/
inductive ErrorKind where
  | notPresent
  | checksumMismatch
  | invalidData
  | timeout
  | pinFault
  deriving DecidableEq, Repr

/-- The operations, in the order of the opcode table. The constructors that the sequencer selects through
PHASE, or that read their operands from the block's registers, have no argument (log 13). -/
inductive Instr where
  /-- READ, the accept step (R150). -/
  | read
  /-- IDLE with no command (R152). -/
  | idle
  /-- START_LOW (R153). -/
  | startLow
  /-- START_HIGH (R154). -/
  | startHigh
  /-- ACK_FALL (R156). -/
  | ackFall
  /-- ACK_RISE (R157). -/
  | ackRise
  /-- ACK_END (R158). -/
  | ackEnd
  /-- BIT_LOW (R159). -/
  | bitLow
  /-- BIT_HIGH (R160). -/
  | bitHigh
  /-- DECIDE (R180). -/
  | decideBits
  /-- CHECK (R183). -/
  | check
  /-- INTERP.INT (R190). -/
  | interpInt
  /-- INTERP.FIX (R192). -/
  | interpFix
  /-- RANGE (R196). -/
  | range
  /-- SUCCESS (R198). -/
  | success
  /-- PIN_NONE (R98). -/
  | pinNone
  /-- PIN_READ (R120). -/
  | pinRead
  /-- PIN_SET_LOW (R121). -/
  | pinSetLow
  /-- PIN_SET_HIGH (R122). -/
  | pinSetHigh
  /-- GUARD_ENABLE (R142). -/
  | guardEnable
  /-- GUARD_DISABLE (R141). -/
  | guardDisable
  /-- CMD.NONE (R103). -/
  | cmdNone
  /-- CMD.READ (R103). -/
  | cmdRead
  /-- FRAME.INT, fields h, x, t, y, c of the frame (R94). -/
  | frameInt (h x t y c : Byte)
  /-- FRAME.FIX, fields h, s, m, c of the frame (R95). -/
  | frameFix (h : BitVec 16) (s : BitVec 1) (m : BitVec 15) (c : Byte)
  /-- SYM.0, a pulse pair that decides to 0 (R91). -/
  | sym0 (low high : Byte)
  /-- SYM.1, a pulse pair that decides to 1 (R91). -/
  | sym1 (low high : Byte)
  /-- WAIT_STEP(target) (R124). -/
  | waitStep (target : Level)
  /-- DELAY_STEP (R126). -/
  | delayStep
  /-- ABORT, `abort(code)` (R166). -/
  | abort (code : ErrorKind)
  /-- HUMIDITY (R201). -/
  | humidity
  /-- TEMPERATURE (R202). -/
  | temperature
  /-- FAHRENHEIT (R203). -/
  | fahrenheit
  deriving DecidableEq, Repr

end Sys2Proof
end

