-- ==== Sys2Proof/WellFormed.lean ====
section
/-! DEFINITION. Which terms of Instr are operations of the block. Every field is as wide as the encoding
makes it, so the only conditions left are those of the SYMBOL rows (spec/30_encoding.md R91). -/

namespace Sys2Proof

/-- SYM.0 stands for a pair with PULSE_HI <= PULSE_LO and SYM.1 for one with PULSE_HI > PULSE_LO, unsigned
(R91 and the table's condition fields). Every other term is well formed. -/
def Instr.wellFormed : Instr → Bool
  | .sym0 low high => high ≤ low
  | .sym1 low high => low < high
  | .read | .idle | .startLow | .startHigh | .ackFall | .ackRise | .ackEnd | .bitLow | .bitHigh => true
  | .decideBits | .check | .interpInt | .interpFix | .range | .success => true
  | .pinNone | .pinRead | .pinSetLow | .pinSetHigh | .guardEnable | .guardDisable => true
  | .cmdNone | .cmdRead | .waitStep _ | .delayStep | .abort _ => true
  | .frameInt _ _ _ _ _ | .frameFix _ _ _ _ => true
  | .humidity | .temperature | .fahrenheit => true

end Sys2Proof
end

