-- ==== Sys2Proof/Decode.lean ====
section
/-! DEFINITION. The encodings of spec/30_encoding.md: the decoder, total on every word of every format and
rejecting by name, and the encoder, both from the same code tables. -/

namespace Sys2Proof

/-- A word of one of the formats of R90 and R109, with whatever else the spec says selects the
operation: `start` and VARIANT beside the PHASE code (R100), VARIANT beside the frame (R93). "No way for one
format to be mistaken for another, since each lives in its own register or port" (R90). -/
inductive OpWord where
  | phase4 (code : BitVec 4) (start : BitVec 1) (variant : BitVec 1)
  | pinOp2 (code : BitVec 2)
  | guard1 (irqMask : BitVec 1)
  | cmd1 (start : BitVec 1)
  | frame40 (variant : BitVec 1) (bits : Frame)
  | symbol (low high : Byte)
  | waitPrim (target : BitVec 1)
  | delayPrim
  | abortPrim (code : BitVec 3)
  | accessor (register : BitVec 3)
  deriving DecidableEq, Repr

/-- Why a word is no operation. -/
inductive DecodeError where
  /-- PHASE code 13, 14 or 15 (R101; 93_implementation_defined.md U4). Raised by `decode`; safe. -/
  | reservedPhase (code : BitVec 4)
  /-- A CODE value that is no error kind, as operand of ABORT (R102, R166). Raised by `decode`; safe. -/
  | notAnErrorCode (code : BitVec 3)
  /-- A register number that no accessor row has (10_state.md R41 to R47). Raised by `decode`; safe. -/
  | notAnAccessor (register : BitVec 3)
  deriving DecidableEq, Repr

/-- The code of a phase (10_state.md R24, R100). -/
def Phase.code : Phase → BitVec 4
  | .idle => 0#4
  | .startLow => 1#4
  | .startHigh => 2#4
  | .ackFall => 3#4
  | .ackRise => 4#4
  | .ackEnd => 5#4
  | .bitLow => 6#4
  | .bitHigh => 7#4
  | .decideBits => 8#4
  | .check => 9#4
  | .interp => 10#4
  | .range => 11#4
  | .success => 12#4

/-- The phase a code stands for; the codes 13 to 15 are reserved (R100, R101). -/
def Phase.ofCode (c : BitVec 4) : Option Phase :=
  match c.toNat with
  | 0 => some .idle
  | 1 => some .startLow
  | 2 => some .startHigh
  | 3 => some .ackFall
  | 4 => some .ackRise
  | 5 => some .ackEnd
  | 6 => some .bitLow
  | 7 => some .bitHigh
  | 8 => some .decideBits
  | 9 => some .check
  | 10 => some .interp
  | 11 => some .range
  | 12 => some .success
  | _ => none

/-- The value of CODE (10_state.md R31, R102). -/
def Code.bits : Code → BitVec 3
  | .none => 0#3
  | .ok => 1#3
  | .notPresent => 2#3
  | .checksumMismatch => 3#3
  | .invalidData => 4#3
  | .timeout => 5#3
  | .pinFault => 6#3

/-- The CODE value an error kind is recorded as (60_exceptions.md R211 to R215). -/
def ErrorKind.code : ErrorKind → Code
  | .notPresent => .notPresent
  | .checksumMismatch => .checksumMismatch
  | .invalidData => .invalidData
  | .timeout => .timeout
  | .pinFault => .pinFault

/-- The error kind a 3-bit CODE value names, if it names one (R102). -/
def ErrorKind.ofBits (c : BitVec 3) : Option ErrorKind :=
  match c.toNat with
  | 2 => some .notPresent
  | 3 => some .checksumMismatch
  | 4 => some .invalidData
  | 5 => some .timeout
  | 6 => some .pinFault
  | _ => none

/-- The level a bit stands for. -/
def Level.ofBit (b : BitVec 1) : Level := if b = 1#1 then .high else .low

/-- The variant a bit stands for (R5). -/
def Variant.ofBit (b : BitVec 1) : Variant := if b = 1#1 then .fix else .int

/-- The operation PHASE selects, with `start` in IDLE and VARIANT in INTERP (R100). -/
def phaseInstr (p : Phase) (start : Bool) (v : Variant) : Instr :=
  match p with
  | .idle => if start then .read else .idle
  | .startLow => .startLow
  | .startHigh => .startHigh
  | .ackFall => .ackFall
  | .ackRise => .ackRise
  | .ackEnd => .ackEnd
  | .bitLow => .bitLow
  | .bitHigh => .bitHigh
  | .decideBits => .decideBits
  | .check => .check
  | .interp => match v with
    | .int => .interpInt
    | .fix => .interpFix
  | .range => .range
  | .success => .success

/-- The fields of a frame in the INT layout `h x t y c`, a byte each (R94). -/
def decodeFrameInt (f : Frame) : Instr :=
  .frameInt (f.extractLsb' 32 8) (f.extractLsb' 24 8) (f.extractLsb' 16 8) (f.extractLsb' 8 8) (f.extractLsb' 0 8)

/-- The fields of a frame in the FIX layout: h = SR[39:24], s = SR[23], m = SR[22:8], c = SR[7:0] (R95). -/
def decodeFrameFix (f : Frame) : Instr :=
  .frameFix (f.extractLsb' 24 16) (f.extractLsb' 23 1) (f.extractLsb' 8 15) (f.extractLsb' 0 8)

/-- The pin operation of a `pin_op` code (R98). -/
def decodePinOp (c : BitVec 2) : Instr :=
  match c.toNat with
  | 0 => .pinNone
  | 1 => .pinRead
  | 2 => .pinSetLow
  | _ => .pinSetHigh

/-- The decoder. Every format but PHASE4, ABORT and ACCESSOR is full: each of its words is an operation. -/
def decode : OpWord → Except DecodeError Instr
  | .phase4 c start v =>
    match Phase.ofCode c with
    | some p => .ok (phaseInstr p (start == 1#1) (Variant.ofBit v))
    | none => .error (.reservedPhase c)
  | .pinOp2 c => .ok (decodePinOp c)
  | .guard1 m => .ok (if m = 1#1 then .guardDisable else .guardEnable)
  | .cmd1 s => .ok (if s = 1#1 then .cmdRead else .cmdNone)
  | .frame40 v f => .ok (match Variant.ofBit v with
    | .int => decodeFrameInt f
    | .fix => decodeFrameFix f)
  | .symbol low high => .ok (if low < high then .sym1 low high else .sym0 low high)
  | .waitPrim t => .ok (.waitStep (Level.ofBit t))
  | .delayPrim => .ok .delayStep
  | .abortPrim c =>
    match ErrorKind.ofBits c with
    | some e => .ok (.abort e)
    | none => .error (.notAnErrorCode c)
  | .accessor r =>
    match r.toNat with
    | 3 => .ok .humidity
    | 4 => .ok .temperature
    | 5 => .ok .fahrenheit
    | _ => .error (.notAnAccessor r)

/-- The encoder. A bit that does not select the operation (`start` outside IDLE, VARIANT outside
INTERP) is 0. -/
def encode : Instr → OpWord
  | .read => .phase4 0#4 1#1 0#1
  | .idle => .phase4 0#4 0#1 0#1
  | .startLow => .phase4 1#4 0#1 0#1
  | .startHigh => .phase4 2#4 0#1 0#1
  | .ackFall => .phase4 3#4 0#1 0#1
  | .ackRise => .phase4 4#4 0#1 0#1
  | .ackEnd => .phase4 5#4 0#1 0#1
  | .bitLow => .phase4 6#4 0#1 0#1
  | .bitHigh => .phase4 7#4 0#1 0#1
  | .decideBits => .phase4 8#4 0#1 0#1
  | .check => .phase4 9#4 0#1 0#1
  | .interpInt => .phase4 10#4 0#1 0#1
  | .interpFix => .phase4 10#4 0#1 1#1
  | .range => .phase4 11#4 0#1 0#1
  | .success => .phase4 12#4 0#1 0#1
  | .pinNone => .pinOp2 0#2
  | .pinRead => .pinOp2 1#2
  | .pinSetLow => .pinOp2 2#2
  | .pinSetHigh => .pinOp2 3#2
  | .guardEnable => .guard1 0#1
  | .guardDisable => .guard1 1#1
  | .cmdNone => .cmd1 0#1
  | .cmdRead => .cmd1 1#1
  | .frameInt h x t y c => .frame40 0#1 (h ++ x ++ t ++ y ++ c)
  | .frameFix h s m c => .frame40 1#1 (h ++ s ++ m ++ c)
  | .sym0 low high => .symbol low high
  | .sym1 low high => .symbol low high
  | .waitStep t => .waitPrim t.bit
  | .delayStep => .delayPrim
  | .abort e => .abortPrim e.code.bits
  | .humidity => .accessor 3#3
  | .temperature => .accessor 4#3
  | .fahrenheit => .accessor 5#3

/-- `w` with every bit that does not select the operation set to 0: `start` where the PHASE code is not
IDLE, VARIANT where it is not INTERP (R100). -/
def OpWord.significant : OpWord → OpWord
  | .phase4 c start v => .phase4 c (if c = 0#4 then start else 0#1) (if c = 10#4 then v else 0#1)
  | w => w

/-- The table's one-byte words as this model lays them out: bits 3:0 the PHASE code, bit 4 `start`,
bit 5 VARIANT (log 14). -/
def selectorWord (w : Nat) : OpWord :=
  .phase4 (BitVec.ofNat 4 w) (BitVec.ofNat 1 (w / 16)) (BitVec.ofNat 1 (w / 32))

/-- The instruction the decoder reads from a table word: a byte is the sequencer's selector word, 40 bits
are a frame, read in the layout of the default instance's VARIANT. The PINOP2, GUARD1 and CMD1 rows have
words that a PHASE4 row has too and cannot be told apart without their port (log 14). -/
def decodeTableWord (nbits w : Nat) : Option Instr :=
  if nbits ≤ 8 then
    if w < 64 then (decode (selectorWord w)).toOption else none
  else if nbits = 40 then
    (decode (.frame40 Config.default.variant.bit (BitVec.ofNat 40 w))).toOption
  else none

end Sys2Proof
end

