-- ==== Sys2Proof/Machine/State.lean ====
section
/-! DEFINITION. The state of one SWDEC instance: exactly the registers of spec/10_state.md R20, beside them the
instance's constants (00_scope.md R5) and three fields of the model's own. -/

namespace Sys2Proof.Machine

/-- The machine stops with a fault: never. Every operation of the block is total and every error kind is
an ordinary next state through `abort` (42_sequencer.md R166; 60_exceptions.md R210), so there is no constructor
and no fault to raise (log 19: safe). -/
inductive Fault where
  deriving DecidableEq, Repr

/-- Why `exec` gives an instruction no meaning. -/
inductive Refusal where
  /-- An arm of `exec` whose instruction has no meaning yet. Raised by no arm of this model; safe. -/
  | notModelled (mnemonic : String)
  deriving DecidableEq, Repr

/-- What PIN_READ returns (40_pulse_timer.md R120). -/
inductive PinReadResult where
  | ok (level : Level)
  | fault
  deriving DecidableEq, Repr

/-- What PIN_SET_LOW and PIN_SET_HIGH return (R121, R122). -/
inductive PinSetResult where
  | ok
  | fault
  deriving DecidableEq, Repr

/-- What WAIT_STEP returns (R124). -/
inductive WaitResult where
  | cont
  | done (elapsed : Byte)
  | expired
  | fault
  deriving DecidableEq, Repr

/-- What DELAY_STEP returns (R126). -/
inductive DelayResult where
  | cont
  | done
  deriving DecidableEq, Repr

/-- The fields a frame stands for: INT, R94 and R96; FIX, R95 and R96. -/
inductive FrameFields where
  | int (humRaw tempRaw : BitVec 16) (checksum : Byte)
  | fix (humRaw : BitVec 16) (neg : Bool) (mag : BitVec 15) (checksum : Byte)
  deriving DecidableEq, Repr

/-- The model's own latch for what an operation hands to its caller (log 8): the results of the pin
operations, of the two PRIM steps, of a symbol, of a frame, and what a host access reads. -/
inductive Returned where
  | nothing
  | pinRead (r : PinReadResult)
  | pinSet (r : PinSetResult)
  | wait (r : WaitResult)
  | delay (r : DelayResult)
  | bit (b : BitVec 1)
  | fields (f : FrameFields)
  | register (value : HostWord)
  | reading (word : HostWord) (quantity : Quantity)
  deriving DecidableEq, Repr

structure State where
  /-- The instance's constants (R5); written by no step (R74; log 2). -/
  cfg : Config
  /-- PHASE (R24). -/
  phase : Phase
  /-- BITIDX (R25). -/
  bitIdx : BitVec 6
  /-- CNT (R26). -/
  cnt : BitVec 8
  /-- DLY (R27). -/
  dly : BitVec 15
  /-- PULSE_LO and PULSE_HI (R28). -/
  pulse : Vector Pulse 40
  /-- SR (R29). -/
  sr : Frame
  /-- H_TMP, unsigned (R30). -/
  hTmp : BitVec 16
  /-- T_TMP, two's complement (R30). -/
  tTmp : BitVec 16
  /-- GUARD (R22). -/
  guard : Bool
  /-- PIN_OUT (R21). -/
  pinOut : Level
  /-- CODE (R31). -/
  code : Code
  /-- CK_EXP (R32). -/
  ckExp : Byte
  /-- CK_CALC (R32). -/
  ckCalc : Byte
  /-- HUM, unsigned (R33). -/
  hum : BitVec 16
  /-- TEMP, two's complement (R34). -/
  temp : BitVec 16
  /-- The model's own: what the environment and the host do next (log 1). -/
  script : List Event
  /-- The model's own: the number of the next tick (log 1). -/
  tick : Nat
  /-- The model's own: what the last primitive, symbol, frame, accessor or register read returned (log 8). -/
  ret : Returned
  deriving DecidableEq, Repr

/-- The pulse buffer with every entry 0 (R50, R150). -/
def clearedPulses : Vector Pulse 40 := Vector.replicate 40 ⟨0#8, 0#8⟩

/-- The machine right after reset (R50) of the default instance, nothing scripted and nothing returned yet
(log 2, 25). -/
def State.reset : State where
  cfg := Config.default
  phase := .idle
  bitIdx := 0#6
  cnt := 0#8
  dly := 0#15
  pulse := clearedPulses
  sr := 0#40
  hTmp := 0#16
  tTmp := 0#16
  guard := false
  pinOut := .high
  code := .none
  ckExp := 0#8
  ckCalc := 0#8
  hum := 0#16
  temp := 0#16
  script := []
  tick := 0
  ret := .nothing

end Sys2Proof.Machine
end

