-- ==== Sys2Proof/Machine/Operands.lean ====
section
/-! DEFINITION. The operand forms: the inputs of the tick, the pulse buffer's entries, the raw bytes of SR, the
fields of a frame, the decided bit and the checksum (spec/20_memory.md R60 to R63, 30_encoding.md R91 to R96). -/

namespace Sys2Proof.Machine

/-- The inputs of the next tick of a script, past any host read at the boundary before it. -/
def scriptedInputs : List Event → Option Inputs
  | [] => none
  | .tick i :: _ => some i
  | .hostRead _ :: rest => scriptedInputs rest

/-- The inputs of the next tick: the script's, or the free value at the tick's number (R66; log 1). -/
def State.inputs (s : State) : Inputs := (scriptedInputs s.script).getD (Config.freeInputs s.tick)

/-- Entry i of the pulse buffer. The block only ever asks for i <= 39 (20_memory.md R61; log 6). -/
def State.pulseAt (s : State) (i : Nat) : Pulse := s.pulse[i]?.getD ⟨0#8, 0#8⟩

/-- `PULSE_LO[i] <- v` (R28). -/
def State.setPulseLow (s : State) (i : Nat) (v : Byte) : State :=
  { s with pulse := s.pulse.setIfInBounds i ⟨v, (s.pulseAt i).high⟩ }

/-- `PULSE_HI[i] <- v` (R28). -/
def State.setPulseHigh (s : State) (i : Nat) (v : Byte) : State :=
  { s with pulse := s.pulse.setIfInBounds i ⟨(s.pulseAt i).low, v⟩ }

/-- `RAW[k] = SR[39-8k : 32-8k]`, k = 0..4 (20_memory.md R62). -/
def rawByte (f : Frame) (k : Nat) : Byte := f.extractLsb' (32 - 8 * k) 8

/-- The bit a pulse pair stands for: 1 exactly when the high count exceeds the low one, unsigned (R91). -/
def decidedBit (p : Pulse) : BitVec 1 := if p.low < p.high then 1#1 else 0#1

/-- One turn of DECIDE's loop: shift left by one, the new bit enters at bit 0 (43_frame_checksum.md R180). -/
def shiftIn (v : Frame) (b : BitVec 1) : Frame := (v <<< 1) ||| b.setWidth 40

/-- The 40 pairs decided and packed in arrival order (R180, R62). -/
def packedBits (ps : Vector Pulse 40) : Frame :=
  ps.toList.foldl (fun v p => shiftIn v (decidedBit p)) 0#40

/-- The sum of bytes 0 to 3 modulo 256 (43_frame_checksum.md R184). -/
def checksumOf (f : Frame) : Byte :=
  BitVec.ofNat 8 ((rawByte f 0).toNat + (rawByte f 1).toNat + (rawByte f 2).toNat + (rawByte f 3).toNat)

/-- INT: `hum_raw = zext_16(RAW[0])` (R96). -/
def humRawInt (f : Frame) : BitVec 16 := (rawByte f 0).setWidth 16

/-- INT: `temp_raw = zext_16(RAW[2])` (R96, R191). -/
def tempRawInt (f : Frame) : BitVec 16 := (rawByte f 2).setWidth 16

/-- FIX: `hum_raw = (RAW[0] << 8) | RAW[1]` (R96, R63). -/
def humRawFix (f : Frame) : BitVec 16 := rawByte f 0 ++ rawByte f 1

/-- FIX: `mag = ((RAW[2] & 0x7F) << 8) | RAW[3]`, 15 bits (R96). -/
def magFix (f : Frame) : BitVec 15 := (rawByte f 2).extractLsb' 0 7 ++ rawByte f 3

/-- FIX: `sign = RAW[2][7]` (R96). -/
def negFix (f : Frame) : Bool := (rawByte f 2).getLsbD 7

/-- A value in tenths from a value in whole units, 16 bits (44_variant_decoders.md R190, R200 (f)). -/
def tenths (v : BitVec 16) : BitVec 16 := BitVec.ofNat 16 (10 * v.toNat)

/-- Sign and magnitude to two's complement, 16 bits; a negative zero becomes 0 (R192, R194, R200 (h)). -/
def signedMagnitude (neg : Bool) (mag : BitVec 15) : BitVec 16 :=
  BitVec.ofInt 16 (if neg then -(mag.toNat : Int) else (mag.toNat : Int))

/-- H_TMP as the variant's decoder computes it (R190, R192). -/
def interpHum : Variant → Frame → BitVec 16
  | .int, f => tenths (humRawInt f)
  | .fix, f => humRawFix f

/-- T_TMP as the variant's decoder computes it (R190, R192). -/
def interpTemp : Variant → Frame → BitVec 16
  | .int, f => tenths (tempRawInt f)
  | .fix, f => signedMagnitude (negFix f) (magFix f)

end Sys2Proof.Machine
end

