-- ==== Sys2Proof/Machine/Flags.lean ====
section
/-! DEFINITION. The flags, the output ports and the host-visible registers, all functions of the state
(spec/10_state.md R23, R40 to R47; 30_encoding.md R98, R99). -/

namespace Sys2Proof.Machine

/-- BUSY: a read transaction is in progress (R40). -/
def State.busy (s : State) : Bool := s.phase ≠ .idle

/-- DONE: a read transaction has completed and none has started since (R40). -/
def State.done (s : State) : Bool := s.code ≠ .none

/-- VALID: HUM and TEMP hold a Reading (R40). -/
def State.valid (s : State) : Bool := s.code = .ok

/-- The output `pin_out` (R23). -/
def State.pinOutPort (s : State) : BitVec 1 := s.pinOut.bit

/-- The output `irq_mask` = GUARD (R23, R99). -/
def State.irqMask (s : State) : BitVec 1 := BitVec.ofBool s.guard

/-- The phases that sample the pin at every tick (R98). -/
def samplesPin : Phase → Bool
  | .ackFall | .ackRise | .ackEnd | .bitLow | .bitHigh => true
  | .idle | .startLow | .startHigh | .decideBits | .check | .interp | .range | .success => false

/-- The output `pin_op`: the pin operation of the next tick (R98); PIN_NONE while `rst` is asserted (R240). -/
def State.pinOp (s : State) : BitVec 2 :=
  if s.inputs.rst then 0#2
  else if s.phase = .idle ∧ s.inputs.start then 2#2
  else if s.phase = .startLow ∧ s.dly = 0#15 then 3#2
  else if samplesPin s.phase then 1#2
  else 0#2

/-- STATUS, register 0: from bit 31 down, zeros, BITIDX, zeros, PHASE, PIN_OUT, GUARD, VALID, DONE, BUSY, CODE
(R41). -/
def statusWord (s : State) : HostWord :=
  0#10 ++ s.bitIdx ++ 0#4 ++ s.phase.code ++ s.pinOut.bit ++ BitVec.ofBool s.guard
    ++ BitVec.ofBool s.valid ++ BitVec.ofBool s.done ++ BitVec.ofBool s.busy ++ s.code.bits

/-- CFG, register 1: bit 0 VARIANT, bit 1 GUARD_IMPL (R42). -/
def cfgWord (s : State) : HostWord := 0#30 ++ s.cfg.guardImpl.bit ++ s.cfg.variant.bit

/-- CKSUM, register 2: bits 7:0 CK_EXP, bits 15:8 CK_CALC (R43). -/
def cksumWord (s : State) : HostWord := 0#16 ++ s.ckCalc ++ s.ckExp

/-- HUM, register 3, zero-extended (R44). -/
def humWord (s : State) : HostWord := s.hum.setWidth 32

/-- TEMP, register 4, sign-extended (R45). -/
def tempWord (s : State) : HostWord := s.temp.signExtend 32

/-- 18 * TEMP + 3200, the Fahrenheit temperature in hundredths of a degree (R46, R203). -/
def fahrenheitHundredths (s : State) : Int := 18 * s.temp.toInt + 3200

/-- TEMPF, register 5, two's complement (R46). -/
def tempfWord (s : State) : HostWord := BitVec.ofInt 32 (fahrenheitHundredths s)

/-- A host read of a register number; 6 and 7 are reserved and read as 0 (R47). -/
def readRegister (r : BitVec 3) (s : State) : HostWord :=
  match r.toNat with
  | 0 => statusWord s
  | 1 => cfgWord s
  | 2 => cksumWord s
  | 3 => humWord s
  | 4 => tempWord s
  | 5 => tempfWord s
  | _ => 0#32

/-- What `read()` returns to its caller once the read has ended (30_encoding.md R107). -/
inductive ReadResult where
  | reading (humidity temperature : Quantity)
  | checksumMismatch (expected calculated : Byte)
  | error (kind : ErrorKind)
  deriving DecidableEq, Repr

/-- The result of the pseudo-operation `read()`, available once BUSY = 0 and DONE = 1 (R107, R165). -/
def State.readResult (s : State) : Option ReadResult :=
  if s.busy then none else
  match s.code with
  | .none => none
  | .ok => some (.reading ⟨(s.hum.toNat : Int), 10⟩ ⟨s.temp.toInt, 10⟩)
  | .notPresent => some (.error .notPresent)
  | .checksumMismatch => some (.checksumMismatch s.ckExp s.ckCalc)
  | .invalidData => some (.error .invalidData)
  | .timeout => some (.error .timeout)
  | .pinFault => some (.error .pinFault)

end Sys2Proof.Machine
end

