-- ==== Sys2Proof/Machine/Ops.lean ====
section
/-! DEFINITION. The operations the phases share: the error exit (taking an "exception"), the guard, the pin, the
Pulse Timer's step, the delay's step, the clearing of the accept step (spec/40 to 42). -/

namespace Sys2Proof.Machine

/-- GUARD_DISABLE: `GUARD <- 1 if GUARD_IMPL == REAL else 0` (41_interrupt_guard.md R141). -/
def State.disableGuard (s : State) : State := { s with guard := decide (s.cfg.guardImpl = .real) }

/-- GUARD_ENABLE: `GUARD <- 0` (R142). -/
def State.enableGuard (s : State) : State := { s with guard := false }

/-- `abort(code)`, the error exit: CODE, GUARD and PHASE are written and nothing else (42_sequencer.md R166;
60_exceptions.md R219). There is no return operation beside it: the next READ clears the error (R220). -/
def State.abortWith (s : State) (e : ErrorKind) : State :=
  { s.enableGuard with code := e.code, phase := .idle }

/-- The latch takes what an operation returns (log 8). -/
def State.deliver (s : State) (r : Returned) : State := { s with ret := r }

/-- `PinRead()`: a fault wins over the level (40_pulse_timer.md R120). -/
def pinRead (s : State) : PinReadResult :=
  if s.inputs.pinFault then .fault else .ok s.inputs.pinIn

/-- `PinSet(level)`'s result (R121, R122). -/
def pinSetResult (s : State) : PinSetResult := if s.inputs.pinFault then .fault else .ok

/-- `PinSet(level)`'s write: PIN_OUT takes the requested level whether or not the set fails (R121, R122). -/
def State.drivePin (s : State) (l : Level) : State := { s with pinOut := l }

/-- WAIT_STEP's result: fault first, then level, then bound (R124). -/
def waitResult (target : Level) (s : State) : WaitResult :=
  match pinRead s with
  | .fault => .fault
  | .ok l => if l = target then .done s.cnt else if s.cnt = timeoutTicks then .expired else .cont

/-- WAIT_STEP's write: CNT is cleared on Done, incremented on Continue, kept otherwise (R124). -/
def State.afterWait (s : State) : WaitResult → State
  | .done _ => { s with cnt := 0#8 }
  | .cont => { s with cnt := s.cnt + 1#8 }
  | .expired => s
  | .fault => s

/-- DELAY_STEP's result (R126). -/
def delayResult (s : State) : DelayResult := if s.dly = 0#15 then .done else .cont

/-- DELAY_STEP's write (R126). -/
def State.afterDelay (s : State) : DelayResult → State
  | .cont => { s with dly := s.dly - 1#15 }
  | .done => s

/-- What DLY is loaded with for a hold of n ticks: n - 1 (R27, R126). -/
def holdPreload (t : HoldTicks) : BitVec 15 := BitVec.ofNat 15 (t.ticks - 1)

/-- The common form of the five waiting phases (42_sequencer.md R155): one WAIT_STEP, and the phase's own
action on Done. -/
def waitPhase (target : Level) (onExpired : ErrorKind) (onDone : Byte → State → State) (s : State) : State :=
  match waitResult target s with
  | .cont => s.afterWait .cont
  | .fault => (s.afterWait .fault).abortWith .pinFault
  | .expired => (s.afterWait .expired).abortWith onExpired
  | .done e => onDone e (s.afterWait (.done e))

/-- The registers the accept step clears, CODE included (R150). -/
def State.clearedForRead (s : State) : State :=
  { s with
    bitIdx := 0#6, cnt := 0#8, pulse := clearedPulses, sr := 0#40, hTmp := 0#16, tTmp := 0#16
    ckExp := 0#8, ckCalc := 0#8, hum := 0#16, temp := 0#16, code := .none }

/-- The accept step: clear, take the guard, pull the line low; a failed set ends the read at once (R150). -/
def acceptRead (s : State) : State :=
  let t := s.clearedForRead.disableGuard.drivePin .low
  match pinSetResult s with
  | .fault => { t with dly := 0#15 }.abortWith .pinFault
  | .ok => { t with dly := holdPreload s.cfg.tStartLow, phase := .startLow }

/-- Reset: every register takes its reset value; the constants, the script and the latch are not registers of
the block (70_reset_and_hazards.md R240; log 17). -/
def State.resetBlock (s : State) : State :=
  { State.reset with cfg := s.cfg, script := s.script, tick := s.tick, ret := s.ret }

end Sys2Proof.Machine
end

