-- ==== Sys2Proof/Machine/FrameOps.lean ====
section
/-! DEFINITION. Bit decision, packing and checksum validation, and the SYMBOL and FRAME40 rows (spec/43_frame_checksum.md;
30_encoding.md R91 to R96). -/

namespace Sys2Proof.Machine

/-- DECIDE (R180): all 40 bits in one step. -/
def execDecide (s : State) : Host.Outcome State Fault Refusal :=
  .next { s with sr := packedBits s.pulse, phase := .check }

/-- CHECK (R183). -/
def execCheck (s : State) : Host.Outcome State Fault Refusal :=
  .next (if checksumOf s.sr = rawByte s.sr 4 then { s with phase := .interp }
    else { s with ckExp := rawByte s.sr 4, ckCalc := checksumOf s.sr }.abortWith .checksumMismatch)

/-- SYM.0: the pair decides to 0 (R91; log 10). -/
def execSym0 (low high : Byte) (s : State) : Host.Outcome State Fault Refusal :=
  .next (s.deliver (.bit (decidedBit ⟨low, high⟩)))

/-- SYM.1: the pair decides to 1 (R91; log 10). -/
def execSym1 (low high : Byte) (s : State) : Host.Outcome State Fault Refusal :=
  .next (s.deliver (.bit (decidedBit ⟨low, high⟩)))

/-- The bytes of a FRAME.INT in the order they arrive (R94). -/
def frameOfInt (h x t y c : Byte) : Frame := h ++ x ++ t ++ y ++ c

/-- The bits of a FRAME.FIX in the order they arrive (R95). -/
def frameOfFix (h : BitVec 16) (s : BitVec 1) (m : BitVec 15) (c : Byte) : Frame := h ++ s ++ m ++ c

/-- FRAME.INT: the fields the 40 bits stand for under VARIANT = 0 (R94, R96; log 9). -/
def execFrameInt (h x t y c : Byte) (s : State) : Host.Outcome State Fault Refusal :=
  let f := frameOfInt h x t y c
  .next (s.deliver (.fields (.int (humRawInt f) (tempRawInt f) (rawByte f 4))))

/-- FRAME.FIX: the fields the 40 bits stand for under VARIANT = 1 (R95, R96; log 9). -/
def execFrameFix (h : BitVec 16) (sg : BitVec 1) (m : BitVec 15) (c : Byte) (s : State) :
    Host.Outcome State Fault Refusal :=
  let f := frameOfFix h sg m c
  .next (s.deliver (.fields (.fix (humRawFix f) (negFix f) (magFix f) (rawByte f 4))))

end Sys2Proof.Machine
end

