-- ==== Sys2Proof/Machine/Guard.lean ====
section
/-! DEFINITION. The Interrupt Guard's two operations (spec/41_interrupt_guard.md). -/

namespace Sys2Proof.Machine

/-- GUARD_ENABLE, `enable()` (R142). -/
def execGuardEnable (s : State) : Host.Outcome State Fault Refusal := .next s.enableGuard

/-- GUARD_DISABLE, `disable()` (R141). -/
def execGuardDisable (s : State) : Host.Outcome State Fault Refusal := .next s.disableGuard

end Sys2Proof.Machine
end

