-- ==== Sys2Proof/Machine/Pin.lean ====
section
/-! DEFINITION. The pin operations, the Pulse Timer's step and the delay's step as operations on their own
(spec/40_pulse_timer.md; log 12, 13): their writes, and their result in the latch. -/

namespace Sys2Proof.Machine

/-- PIN_NONE: no pin operation, no write (R98). -/
def execPinNone (s : State) : Host.Outcome State Fault Refusal := .next s

/-- PIN_READ: writes no state, returns the level or Fault (R120). -/
def execPinRead (s : State) : Host.Outcome State Fault Refusal := .next (s.deliver (.pinRead (pinRead s)))

/-- PIN_SET_LOW: `PIN_OUT <- 0`, returns Ok or Fault (R121). -/
def execPinSetLow (s : State) : Host.Outcome State Fault Refusal :=
  .next ((s.drivePin .low).deliver (.pinSet (pinSetResult s)))

/-- PIN_SET_HIGH: `PIN_OUT <- 1`, returns Ok or Fault (R122). -/
def execPinSetHigh (s : State) : Host.Outcome State Fault Refusal :=
  .next ((s.drivePin .high).deliver (.pinSet (pinSetResult s)))

/-- WAIT_STEP(target) (R124). -/
def execWaitStep (target : Level) (s : State) : Host.Outcome State Fault Refusal :=
  .next ((s.afterWait (waitResult target s)).deliver (.wait (waitResult target s)))

/-- DELAY_STEP (R126). -/
def execDelayStep (s : State) : Host.Outcome State Fault Refusal :=
  .next ((s.afterDelay (delayResult s)).deliver (.delay (delayResult s)))

end Sys2Proof.Machine
end

