-- ==== Sys2Proof/Machine/Sequencer.lean ====
section
/-! DEFINITION. The handshake sequencer: READ, IDLE, START_LOW, START_HIGH, the three acknowledgement waits, the two
bit waits, ABORT, and the host command (spec/42_sequencer.md; 30_encoding.md R103). -/

namespace Sys2Proof.Machine

/-- READ (R150). -/
def execRead (s : State) : Host.Outcome State Fault Refusal := .next (acceptRead s)

/-- IDLE with no command: no write (R152). -/
def execIdle (s : State) : Host.Outcome State Fault Refusal := .next s

/-- START_LOW (R153): hold, then release the line and load the second hold. -/
def execStartLow (s : State) : Host.Outcome State Fault Refusal :=
  .next (match delayResult s with
    | .cont => s.afterDelay .cont
    | .done =>
      let t := (s.afterDelay .done).drivePin .high
      match pinSetResult s with
      | .fault => t.abortWith .pinFault
      | .ok => { t with dly := holdPreload s.cfg.tStartHigh, phase := .startHigh })

/-- START_HIGH (R154): hold, then enter ACK_FALL; the closing tick takes no sample. -/
def execStartHigh (s : State) : Host.Outcome State Fault Refusal :=
  .next (match delayResult s with
    | .cont => s.afterDelay .cont
    | .done => { s.afterDelay .done with cnt := 0#8, phase := .ackFall })

/-- ACK_FALL (R156). -/
def execAckFall (s : State) : Host.Outcome State Fault Refusal :=
  .next (waitPhase .low .notPresent (fun _ t => { t with phase := .ackRise }) s)

/-- ACK_RISE (R157). -/
def execAckRise (s : State) : Host.Outcome State Fault Refusal :=
  .next (waitPhase .high .notPresent (fun _ t => { t with phase := .ackEnd }) s)

/-- ACK_END (R158). -/
def execAckEnd (s : State) : Host.Outcome State Fault Refusal :=
  .next (waitPhase .low .notPresent (fun _ t => { t with phase := .bitLow }) s)

/-- BIT_LOW (R159): the low count of pair BITIDX. -/
def execBitLow (s : State) : Host.Outcome State Fault Refusal :=
  .next (waitPhase .high .timeout (fun e t => { t.setPulseLow t.bitIdx.toNat e with phase := .bitHigh }) s)

/-- What follows a stored high count: the next pair, or after pair 39 the end of capture, where the guard
is released and BITIDX stays (R160). -/
def nextPair (t : State) : State :=
  if t.bitIdx = 39#6 then { t.enableGuard with phase := .decideBits }
  else { t with bitIdx := t.bitIdx + 1#6, phase := .bitLow }

/-- BIT_HIGH (R160): the high count of pair BITIDX. -/
def execBitHigh (s : State) : Host.Outcome State Fault Refusal :=
  .next (waitPhase .low .timeout (fun e t => nextPair (t.setPulseHigh t.bitIdx.toNat e)) s)

/-- ABORT, `abort(code)` (R166). -/
def execAbort (e : ErrorKind) (s : State) : Host.Outcome State Fault Refusal := .next (s.abortWith e)

/-- CMD.NONE: `start` = 0 is no command (R103; log 11). -/
def execCmdNone (s : State) : Host.Outcome State Fault Refusal := .next s

/-- CMD.READ: `start` = 1 is READ in IDLE and is ignored in every other phase (R103, R162; log 11). -/
def execCmdRead (s : State) : Host.Outcome State Fault Refusal :=
  .next (if s.busy then s else acceptRead s)

end Sys2Proof.Machine
end

