-- ==== Sys2Proof/Machine/VariantDecoders.lean ====
section
/-! DEFINITION. Value interpretation, range validation, success and the accessors (spec/44_variant_decoders.md). -/

namespace Sys2Proof.Machine

/-- INTERP.INT (R190). -/
def execInterpInt (s : State) : Host.Outcome State Fault Refusal :=
  .next { s with hTmp := interpHum .int s.sr, tTmp := interpTemp .int s.sr, phase := .range }

/-- INTERP.FIX (R192). -/
def execInterpFix (s : State) : Host.Outcome State Fault Refusal :=
  .next { s with hTmp := interpHum .fix s.sr, tTmp := interpTemp .fix s.sr, phase := .range }

/-- RANGE (R196): only the humidity is validated, and only from above (R197). -/
def execRange (s : State) : Host.Outcome State Fault Refusal :=
  .next (if humMax < s.hTmp.toNat then s.abortWith .invalidData else { s with phase := .success })

/-- SUCCESS (R198): HUM, TEMP and CODE in one step (20_memory.md R69). -/
def execSuccess (s : State) : Host.Outcome State Fault Refusal :=
  .next { s with hum := s.hTmp, temp := s.tTmp, code := .ok, phase := .idle }

/-- HUMIDITY = HUM / 10 and its register (R201, R44). -/
def execHumidity (s : State) : Host.Outcome State Fault Refusal :=
  .next (s.deliver (.reading (humWord s) ⟨(s.hum.toNat : Int), 10⟩))

/-- TEMPERATURE = TEMP / 10 and its register (R202, R45). -/
def execTemperature (s : State) : Host.Outcome State Fault Refusal :=
  .next (s.deliver (.reading (tempWord s) ⟨s.temp.toInt, 10⟩))

/-- FAHRENHEIT = TEMPF / 100 and its register (R203, R46). -/
def execFahrenheit (s : State) : Host.Outcome State Fault Refusal :=
  .next (s.deliver (.reading (tempfWord s) ⟨fahrenheitHundredths s, 100⟩))

end Sys2Proof.Machine
end

