-- ==== Sys2Proof/Machine/Dispatch.lean ====
section
/-! DEFINITION. One arm per operation, each one call of its meaning. -/

namespace Sys2Proof.Machine

def exec (i : Instr) (s : State) : Host.Outcome State Fault Refusal :=
  match i with
  | .read => Sys2Proof.Machine.execRead s
  | .idle => Sys2Proof.Machine.execIdle s
  | .startLow => Sys2Proof.Machine.execStartLow s
  | .startHigh => Sys2Proof.Machine.execStartHigh s
  | .ackFall => Sys2Proof.Machine.execAckFall s
  | .ackRise => Sys2Proof.Machine.execAckRise s
  | .ackEnd => Sys2Proof.Machine.execAckEnd s
  | .bitLow => Sys2Proof.Machine.execBitLow s
  | .bitHigh => Sys2Proof.Machine.execBitHigh s
  | .decideBits => Sys2Proof.Machine.execDecide s
  | .check => Sys2Proof.Machine.execCheck s
  | .interpInt => Sys2Proof.Machine.execInterpInt s
  | .interpFix => Sys2Proof.Machine.execInterpFix s
  | .range => Sys2Proof.Machine.execRange s
  | .success => Sys2Proof.Machine.execSuccess s
  | .pinNone => Sys2Proof.Machine.execPinNone s
  | .pinRead => Sys2Proof.Machine.execPinRead s
  | .pinSetLow => Sys2Proof.Machine.execPinSetLow s
  | .pinSetHigh => Sys2Proof.Machine.execPinSetHigh s
  | .guardEnable => Sys2Proof.Machine.execGuardEnable s
  | .guardDisable => Sys2Proof.Machine.execGuardDisable s
  | .cmdNone => Sys2Proof.Machine.execCmdNone s
  | .cmdRead => Sys2Proof.Machine.execCmdRead s
  | .frameInt h x t y c => Sys2Proof.Machine.execFrameInt h x t y c s
  | .frameFix h sg m c => Sys2Proof.Machine.execFrameFix h sg m c s
  | .sym0 low high => Sys2Proof.Machine.execSym0 low high s
  | .sym1 low high => Sys2Proof.Machine.execSym1 low high s
  | .waitStep target => Sys2Proof.Machine.execWaitStep target s
  | .delayStep => Sys2Proof.Machine.execDelayStep s
  | .abort code => Sys2Proof.Machine.execAbort code s
  | .humidity => Sys2Proof.Machine.execHumidity s
  | .temperature => Sys2Proof.Machine.execTemperature s
  | .fahrenheit => Sys2Proof.Machine.execFahrenheit s

end Sys2Proof.Machine
end

