-- ==== Sys2Proof/Machine/Fetch.lean ====
section
/-! DEFINITION. What the next step is: the operation PHASE selects with the tick's inputs, a reset, or a host access
at the tick boundary (spec/00_scope.md R8; 30_encoding.md R100; 70_reset_and_hazards.md R240; 20_memory.md R68). -/

namespace Sys2Proof.Machine

/-- What the next step does. -/
inductive Fetched where
  | reset
  | register (r : BitVec 3)
  | operation (i : Instr)
  deriving DecidableEq, Repr

/-- A host access runs the accessor its register number has, or reads a register without one (R47, R109). -/
def fetchHostRead (r : BitVec 3) : Fetched :=
  match decode (.accessor r) with
  | .ok i => .operation i
  | .error _ => .register r

/-- A tick runs the operation PHASE selects (R100), unless `rst` is asserted (R240). -/
def fetchTick (s : State) : Fetched :=
  if s.inputs.rst then .reset else .operation (phaseInstr s.phase s.inputs.start s.cfg.variant)

/-- What the next step does. -/
def fetch (s : State) : Fetched :=
  match s.script with
  | .hostRead r :: _ => fetchHostRead r
  | .tick _ :: _ => fetchTick s
  | [] => fetchTick s

/-- The next event is spent; a tick advances the tick number (log 1). -/
def State.advance (s : State) : State :=
  match s.script with
  | .hostRead _ :: rest => { s with script := rest }
  | .tick _ :: rest => { s with script := rest, tick := s.tick + 1 }
  | [] => { s with tick := s.tick + 1 }

/-- The inputs a placed instruction's tick gets where the script gives none: nothing asserted, line low
(log 15). -/
def quietInputs : Inputs := ⟨false, false, .low, false⟩

/-- The script with its next event a tick without reset and with the given `start` (log 15). -/
def placeTick (start : Bool) : List Event → List Event
  | .tick i :: rest => .tick { i with rst := false, start := start } :: rest
  | rest => .tick { quietInputs with start := start } :: rest

/-- The state whose next tick performs the operation of `p`. -/
def State.placePhase (s : State) (p : Phase) (start : Bool) : State :=
  { s with phase := p, script := placeTick start s.script }

/-- The instance with the given VARIANT, the one constant that selects between two INTERP operations. -/
def State.placeVariant (s : State) (v : Variant) : State := { s with cfg := { s.cfg with variant := v } }

/-- The state whose next step runs `i` where the sequencer or the host selects operations like `i`: the 15
PHASE4 rows and the three accessors. A frame is placed in SR with the phase that reads its fields. The other
rows are never selected on their own (R109), so they are placed nowhere (log 15). -/
def State.place (s : State) : Instr → State
  | .read => s.placePhase .idle true
  | .idle => s.placePhase .idle false
  | .startLow => s.placePhase .startLow false
  | .startHigh => s.placePhase .startHigh false
  | .ackFall => s.placePhase .ackFall false
  | .ackRise => s.placePhase .ackRise false
  | .ackEnd => s.placePhase .ackEnd false
  | .bitLow => s.placePhase .bitLow false
  | .bitHigh => s.placePhase .bitHigh false
  | .decideBits => s.placePhase .decideBits false
  | .check => s.placePhase .check false
  | .interpInt => (s.placeVariant .int).placePhase .interp false
  | .interpFix => (s.placeVariant .fix).placePhase .interp false
  | .range => s.placePhase .range false
  | .success => s.placePhase .success false
  | .frameInt h x t y c =>
    { (s.placeVariant .int).placePhase .interp false with sr := h ++ x ++ t ++ y ++ c }
  | .frameFix h sg m c =>
    { (s.placeVariant .fix).placePhase .interp false with sr := h ++ sg ++ m ++ c }
  | .humidity => { s with script := .hostRead 3#3 :: s.script }
  | .temperature => { s with script := .hostRead 4#3 :: s.script }
  | .fahrenheit => { s with script := .hostRead 5#3 :: s.script }
  | .pinNone | .pinRead | .pinSetLow | .pinSetHigh | .guardEnable | .guardDisable => s
  | .cmdNone | .cmdRead | .sym0 _ _ | .sym1 _ _ | .waitStep _ | .delayStep | .abort _ => s

end Sys2Proof.Machine
end

