-- ==== Sys2Proof/Machine/Step.lean ====
section
/-! DEFINITION. One step: one tick of the sequencer, or one host access at a tick boundary (spec/00_scope.md R8). -/

namespace Sys2Proof.Machine

def step (s : State) : Host.Outcome State Fault Refusal :=
  match fetch s with
  | .reset => .next s.resetBlock.advance
  | .register r => .next (s.deliver (.register (readRegister r s))).advance
  | .operation i =>
    match exec i s with
    | .next t => .next t.advance
    | .fault f => .fault f
    | .refused r => .refused r

/-- `s` with the table word's instruction placed where the next step selects it (log 14, 15). -/
def State.withFetchWord (s : State) (nbits w : Nat) : State :=
  match decodeTableWord nbits w with
  | some i => s.place i
  | none => s

end Sys2Proof.Machine
end

