-- ==== Sys2Proof/Machine/Pseudo.lean ====
section
/-! DEFINITION. The pseudo-operations `wait_for_level` and `delay` of spec/30_encoding.md R107: runs of WAIT_STEP and of
DELAY_STEP at consecutive ticks, in which `rst` plays no part (log 28). `read()` is the phase sequence itself and `State.readResult`. -/

namespace Sys2Proof.Machine

/-- What is left of a script once its next tick has passed, host reads before that tick included. -/
def scriptAfterTick : List Event → List Event
  | [] => []
  | .tick _ :: rest => rest
  | .hostRead _ :: rest => scriptAfterTick rest

/-- The next tick has passed. -/
def State.passTick (s : State) : State :=
  { s with script := scriptAfterTick s.script, tick := s.tick + 1 }

/-- WAIT_STEP at every tick until it reports something other than Continue, for at most `fuel` ticks. DESIGN CHOICE: a
tick with `rst` = 1 is sampled like any other here; R107 and R123 are silent on it (log 28). -/
def waitLoop (target : Level) : Nat → State → WaitResult × State
  | 0, s => (.cont, s)
  | fuel + 1, s =>
    match waitResult target s with
    | .cont => waitLoop target fuel (s.afterWait .cont).passTick
    | r => (r, (s.afterWait r).passTick)

/-- `wait_for_level(target, 255)`: set CNT to 0, then WAIT_STEP at every tick (R107). A wait lasts at most
256 ticks (40_pulse_timer.md R125). -/
def waitForLevel (target : Level) (s : State) : WaitResult × State :=
  waitLoop target 256 { s with cnt := 0#8 }

/-- DELAY_STEP at every tick until it reports Done, for at most `fuel` ticks. DESIGN CHOICE: a tick with `rst` = 1
counts like any other here; R107 and R126 are silent on it (log 28). -/
def delayLoop : Nat → State → DelayResult × State
  | 0, s => (.cont, s)
  | fuel + 1, s =>
    match delayResult s with
    | .cont => delayLoop fuel (s.afterDelay .cont).passTick
    | .done => (.done, (s.afterDelay .done).passTick)

/-- `delay(n)`: set DLY to n - 1, then DELAY_STEP at every tick (R107). -/
def delayFor (n : HoldTicks) (s : State) : DelayResult × State :=
  delayLoop n.ticks { s with dly := holdPreload n }

end Sys2Proof.Machine
end

