-- ==== Sys2Proof/Safety.lean ====
section
/-! DEFINITION. The terms claims are stated in: the invariants of spec/10_state.md R52 and what a transaction's data must
satisfy, scripts without resets, the bounds of 42_sequencer.md R164, and a frame's outcome as plain arithmetic. -/

namespace Sys2Proof.Machine

/-- `p` is one of the phases `first` to `last`, in the order of their codes (10_state.md R24). -/
def between (first last p : Phase) : Bool :=
  first.code.toNat ≤ p.code.toNat && p.code.toNat ≤ last.code.toNat

/-- R52, field by field; the last three fields strengthen it to an inductive invariant: the holds' counts (R27)
and the humidity that RANGE let pass (R196). -/
structure Inv (s : State) : Prop where
  bitIdx_le : s.bitIdx.toNat ≤ 39
  bitIdx_zero : between .startLow .ackEnd s.phase = true → s.bitIdx = 0#6
  dly_zero : between .ackFall .success s.phase = true → s.dly = 0#15
  guard_noop : s.cfg.guardImpl = .noop → s.guard = false
  guard_only : s.guard = true → between .startLow .bitHigh s.phase = true
  guard_real : s.cfg.guardImpl = .real → between .startLow .bitHigh s.phase = true → s.guard = true
  code_none : s.phase ≠ .idle → s.code = .none
  hum_le : s.code = .ok → s.hum.toNat ≤ 1000
  reading_zero : s.code ≠ .ok → s.hum = 0#16 ∧ s.temp = 0#16
  cksum_zero : s.code ≠ .checksumMismatch → s.ckExp = 0#8 ∧ s.ckCalc = 0#8
  cksum_ne : s.code = .checksumMismatch → s.ckExp ≠ s.ckCalc
  pin_high : between .startHigh .success s.phase = true → s.pinOut = .high
  pin_low : s.phase = .startLow → s.pinOut = .low
  dly_low : s.phase = .startLow → s.dly.toNat < s.cfg.tStartLow.ticks
  dly_high : s.phase = .startHigh → s.dly.toNat < s.cfg.tStartHigh.ticks
  hTmp_le : s.phase = .success → s.hTmp.toNat ≤ 1000

/-- What the data registers hold along a transaction: nothing is decided during capture (42_sequencer.md R161),
uncaptured entries are 0 (20_memory.md R61), SR is the packing of the captured pairs (43_frame_checksum.md R180), its
checksum has been validated before it is interpreted (R186), and a Reading is that frame's interpretation. -/
structure DataInv (s : State) : Prop where
  sr_zero : between .startLow .decideBits s.phase = true → s.sr = 0#40
  tmp_zero : between .startLow .interp s.phase = true → s.hTmp = 0#16 ∧ s.tTmp = 0#16
  pulses_ack : between .startLow .ackEnd s.phase = true → s.pulse = clearedPulses
  pulses_low : s.phase = .bitLow → ∀ i, s.bitIdx.toNat ≤ i → i < 40 → s.pulseAt i = ⟨0#8, 0#8⟩
  pulses_high : s.phase = .bitHigh → ∀ i, s.bitIdx.toNat < i → i < 40 → s.pulseAt i = ⟨0#8, 0#8⟩
  pulse_open : s.phase = .bitHigh → (s.pulseAt s.bitIdx.toNat).high = 0#8
  bitIdx_end : between .decideBits .success s.phase = true → s.bitIdx = 39#6
  sr_packed : between .check .success s.phase = true → s.sr = packedBits s.pulse
  checksum_ok : between .interp .success s.phase = true → checksumOf s.sr = rawByte s.sr 4
  tmp_values : between .range .success s.phase = true →
    s.hTmp = interpHum s.cfg.variant s.sr ∧ s.tTmp = interpTemp s.cfg.variant s.sr
  reading : s.code = .ok → s.bitIdx = 39#6 ∧ s.sr = packedBits s.pulse ∧ checksumOf s.sr = rawByte s.sr 4 ∧
    s.hum = interpHum s.cfg.variant s.sr ∧ s.temp = interpTemp s.cfg.variant s.sr

/-- The event is a tick at which `rst` is not asserted. -/
def plainTick : Event → Bool
  | .tick i => !i.rst
  | .hostRead _ => false

/-- The event is a tick without reset and without pin fault at which the pin reports `l`. -/
def sampleOf (l : Level) : Event → Bool
  | .tick i => !i.rst && !i.pinFault && decide (i.pinIn = l)
  | .hostRead _ => false

/-- The other level. -/
def otherLevel : Level → Level
  | .low => .high
  | .high => .low

/-- The level a waiting phase waits for (42_sequencer.md R155). -/
def waitTarget : Phase → Option Level
  | .ackFall | .ackEnd | .bitHigh => some .low
  | .ackRise | .bitLow => some .high
  | .idle | .startLow | .startHigh | .decideBits | .check | .interp | .range | .success => none

/-- The error kind an Expired wait becomes (R155). -/
def expiredKind (p : Phase) : ErrorKind :=
  if between .bitLow .bitHigh p then .timeout else .notPresent

/-- The latest tick, counted from the accept tick, at which a read has ended (R164). -/
def longestRead (c : Config) : Nat := c.tStartLow.ticks + c.tStartHigh.ticks + 83 * 256 + 5

/-- The earliest tick, counted from the accept tick, at which a successful read ends (R164). -/
def shortestRead (c : Config) : Nat := c.tStartLow.ticks + c.tStartHigh.ticks + 83 + 5

/-- The phases that may follow a phase when it neither stays nor aborts (42_sequencer.md R151). -/
def successors : Phase → List Phase
  | .idle => [.startLow]
  | .startLow => [.startHigh]
  | .startHigh => [.ackFall]
  | .ackFall => [.ackRise]
  | .ackRise => [.ackEnd]
  | .ackEnd => [.bitLow]
  | .bitLow => [.bitHigh]
  | .bitHigh => [.bitLow, .decideBits]
  | .decideBits => [.check]
  | .check => [.interp]
  | .interp => [.range]
  | .range => [.success]
  | .success => [.idle]

/-- What a received frame comes to, as a pure function of VARIANT and the 40 bits (95_test_vectors.md section 5,
property 6). -/
inductive FrameOutcome where
  | checksumMismatch (expected calculated : Nat)
  | invalidData
  | reading (hum : Nat) (temp : Int)
  deriving DecidableEq, Repr

/-- Byte k of a frame, as a number (20_memory.md R62). -/
def byteOf (f : Frame) (k : Nat) : Nat := f.toNat / 256 ^ (4 - k) % 256

/-- The outcome of a frame in the source's own arithmetic on bytes (43_frame_checksum.md R183; 44_variant_decoders.md
R190, R192, R196). -/
def frameOutcome (v : Variant) (f : Frame) : FrameOutcome :=
  let sum := (byteOf f 0 + byteOf f 1 + byteOf f 2 + byteOf f 3) % 256
  let hum := match v with
    | .int => 10 * byteOf f 0
    | .fix => 256 * byteOf f 0 + byteOf f 1
  let mag := 256 * (byteOf f 2 % 128) + byteOf f 3
  let temp : Int := match v with
    | .int => 10 * byteOf f 2
    | .fix => if 128 ≤ byteOf f 2 then -(mag : Int) else mag
  if sum ≠ byteOf f 4 then .checksumMismatch (byteOf f 4) sum
  else if 1000 < hum then .invalidData
  else .reading hum temp

/-- `k` steps of the machine. -/
def runFor (k : Nat) (s : State) : Host.Outcome State Fault Refusal := Host.Core.run core k s

/-- The block's registers (10_state.md R20), without the constants and the model's own fields. -/
def State.registers (s : State) : State :=
  { s with cfg := Config.default, script := [], tick := 0, ret := .nothing }

end Sys2Proof.Machine
end

