-- ==== Sys2Proof/Certificates/Slice0/Obligations.lean ====
section
/-! DEFINITION. The statements for the provers. Where a docstring says "decision D<n>", the rule's text is marked by the spec
as its own decision (92_eei_decisions.md), or as derived from other rules, and the statement's basis is 'derived'. -/

open Sys2Proof Sys2Proof.Machine

/-! ## Reset, the step, invariants -/

/-- R50 (decision D20): every register after reset, and what the ports and host registers then show. -/
def Obligations.ResetHoldsTheResetValues : Prop :=
  State.reset.phase = .idle ∧ State.reset.bitIdx = 0#6 ∧ State.reset.cnt = 0#8 ∧ State.reset.dly = 0#15 ∧
  (∀ i < 40, State.reset.pulseAt i = ⟨0#8, 0#8⟩) ∧ State.reset.sr = 0#40 ∧
  State.reset.hTmp = 0#16 ∧ State.reset.tTmp = 0#16 ∧ State.reset.guard = false ∧ State.reset.pinOut = .high ∧
  State.reset.code = .none ∧ State.reset.ckExp = 0#8 ∧ State.reset.ckCalc = 0#8 ∧
  State.reset.hum = 0#16 ∧ State.reset.temp = 0#16 ∧
  State.reset.busy = false ∧ State.reset.done = false ∧ State.reset.valid = false ∧
  State.reset.irqMask = 0#1 ∧ State.reset.pinOutPort = 1#1 ∧
  readRegister 0#3 State.reset = 0x00000080#32 ∧ readRegister 2#3 State.reset = 0#32 ∧
  readRegister 3#3 State.reset = 0#32 ∧ readRegister 4#3 State.reset = 0#32 ∧
  readRegister 5#3 State.reset = 0x00000C80#32

/-- R240, R241 (decision D20): a tick with `rst` gives every register its reset value, from any state and
whatever the other inputs; the constants stay; `pin_op` is PIN_NONE. (That `ret` stays and how the script is
consumed is the model's choice, log 1 and 17.) -/
def Obligations.ResetTickRestoresEveryRegister : Prop :=
  ∀ (s : State) (inp : Inputs) (rest : List Event), s.script = .tick inp :: rest → inp.rst = true →
    s.pinOp = 0#2 ∧
    step s = .next { State.reset with cfg := s.cfg, script := rest, tick := s.tick + 1, ret := s.ret }

/-- R52 holds after reset, for every configuration, and so does the data invariant. -/
def Obligations.ResetMeetsTheInvariants : Prop :=
  ∀ c : Config, Inv { State.reset with cfg := c } ∧ DataInv { State.reset with cfg := c }

/-- R52 (derived by the spec): "Invariants that every reachable state satisfies", kept by every step of
every state that has them, whatever the inputs. -/
def Obligations.StepKeepsTheStateInvariant : Prop :=
  ∀ s t : State, Inv s → step s = .next t → Inv t

/-- R61, R161, R186 and R198 together (derived by the spec): what the data registers hold along a
transaction, up to the Reading that is the interpretation of the captured, validated frame. -/
def Obligations.StepKeepsTheDataInvariant : Prop :=
  ∀ s t : State, Inv s → DataInv s → step s = .next t → DataInv t

/-- A state's returned Reading (R107) is the outcome the source's arithmetic gives the frame that was captured:
checksum good, humidity at most 1000 tenths, values as the variant's formulas say. -/
def Obligations.ReturnedReadingIsTheCapturedFrame : Prop :=
  ∀ (s : State) (h t : Quantity), Inv s → DataInv s → s.readResult = some (.reading h t) →
    frameOutcome s.cfg.variant (packedBits s.pulse) = .reading s.hum.toNat s.temp.toInt ∧
    h = ⟨(s.hum.toNat : Int), 10⟩ ∧ t = ⟨s.temp.toInt, 10⟩

/-- The block never stops (log 19), and no step changes VARIANT, GUARD_IMPL or the hold lengths (R74, decision
D22). -/
def Obligations.EveryStepAnswersAndKeepsTheConfiguration : Prop :=
  ∀ s : State, ∃ t : State, step s = .next t ∧ t.cfg = s.cfg

/-- R8, R100 (decisions D5, D9): the tick's step is `exec` of the operation decoded from PHASE, `start` and
VARIANT, and then the tick has passed (log 1); with nothing scripted the tick's inputs are the free value, `rst`
among them, and where that is 1 the step is the reset of R240 (decision D20; that `ret` stays is log 17). -/
def Obligations.StepRunsTheSelectedOperation : Prop :=
  (∀ (s : State) (inp : Inputs) (rest : List Event) (i : Instr), s.script = .tick inp :: rest → inp.rst = false →
    decode (.phase4 s.phase.code (BitVec.ofBool inp.start) s.cfg.variant.bit) = .ok i →
    step s = match exec i s with
      | .next u => .next { u with script := rest, tick := s.tick + 1 }
      | .fault f => .fault f
      | .refused r => .refused r) ∧
  (∀ (s : State) (i : Instr), s.script = [] →
    decode (.phase4 s.phase.code (BitVec.ofBool (Config.freeInputs s.tick).start) s.cfg.variant.bit) = .ok i →
    step s = if (Config.freeInputs s.tick).rst = true
      then .next { State.reset with cfg := s.cfg, tick := s.tick + 1, ret := s.ret }
      else match exec i s with
        | .next u => .next { u with tick := s.tick + 1 }
        | .fault f => .fault f
        | .refused r => .refused r)

/-- R47, R68 (decision D17; log 8, 16): a host access at a tick boundary runs the accessor its register number
has, or delivers the register's value, and changes no register of the block. -/
def Obligations.StepRunsTheHostAccess : Prop :=
  ∀ (s : State) (r : BitVec 3) (rest : List Event), s.script = .hostRead r :: rest →
    (∀ i u, decode (.accessor r) = .ok i → exec i s = .next u → step s = .next { u with script := rest }) ∧
    ((∀ i, decode (.accessor r) ≠ .ok i) →
      step s = .next { s with script := rest, ret := .register (readRegister r s) }) ∧
    (∃ t, step s = .next t ∧ t.registers = s.registers)

/-! ## Encodings -/

/-- Decode and encode agree on every well-formed operation, every field at every value (30_encoding.md R90 to
R103). -/
def Obligations.DecodeOfEncodeIsTheOperation : Prop :=
  ∀ i : Instr, i.wellFormed = true → decode (encode i) = .ok i

/-- The other direction: a word that decodes is, in the bits that select (R100), the encoding of what it decodes
to, and what it decodes to is well formed. -/
def Obligations.EncodeOfDecodeKeepsTheSelectingBits : Prop :=
  ∀ (w : OpWord) (i : Instr), decode w = .ok i → encode i = w.significant ∧ i.wellFormed = true

/-- Words written out from the tables of R98, R99, R100, R102 and R103. -/
def Obligations.TableWordsDecode : Prop :=
  decode (.phase4 0b0000#4 0b1#1 0b0#1) = .ok .read ∧
  decode (.phase4 0b0011#4 0b0#1 0b1#1) = .ok .ackFall ∧
  decode (.phase4 0b1010#4 0b0#1 0b0#1) = .ok .interpInt ∧
  decode (.phase4 0b1010#4 0b0#1 0b1#1) = .ok .interpFix ∧
  decode (.phase4 0b1100#4 0b1#1 0b1#1) = .ok .success ∧
  decode (.pinOp2 0b10#2) = .ok .pinSetLow ∧
  decode (.guard1 0b1#1) = .ok .guardDisable ∧
  decode (.cmd1 0b1#1) = .ok .cmdRead ∧
  decode (.abortPrim 0b011#3) = .ok (.abort .checksumMismatch)

/-- R101, R102 (decisions D9, D13): the words that are rejected are the reserved PHASE codes, the CODE values that
are no error kind, and the register numbers without an accessor; every other word decodes. -/
def Obligations.ExactlyTheReservedWordsAreRejected : Prop :=
  ∀ w : OpWord, (∃ e, decode w = .error e) ↔
    (∃ c start v, w = .phase4 c start v ∧ 13 ≤ c.toNat) ∨
    (∃ c, w = .abortPrim c ∧ (c = 0#3 ∨ c = 1#3 ∨ c = 7#3)) ∨
    (∃ r, w = .accessor r ∧ ¬ (r = 3#3 ∨ r = 4#3 ∨ r = 5#3))

/-- R94 to R96: the fields of both frame layouts, their assembly, and that the layout is selected by VARIANT
alone. Nothing but the latch changes (log 9). -/
def Obligations.FrameFieldsFollowTheLayouts : Prop :=
  (∀ (s : State) (h x t y c : Byte),
    decode (.frame40 0#1 (h ++ x ++ t ++ y ++ c)) = .ok (.frameInt h x t y c) ∧
    exec (.frameInt h x t y c) s =
      .next { s with ret := .fields (.int (h.setWidth 16) (t.setWidth 16) c) }) ∧
  (∀ (s : State) (h1 h0 : Byte) (sg : BitVec 1) (m1 : BitVec 7) (m0 c : Byte),
    decode (.frame40 1#1 (h1 ++ h0 ++ sg ++ m1 ++ m0 ++ c)) = .ok (.frameFix (h1 ++ h0) sg (m1 ++ m0) c) ∧
    exec (.frameFix (h1 ++ h0) sg (m1 ++ m0) c) s =
      .next { s with ret := .fields (.fix (h1 ++ h0) (sg == 1#1) (m1 ++ m0) c) })

/-- R91: "`bit_i = 1 if PULSE_HI[i] > PULSE_LO[i] else 0`, the comparison unsigned". The decision uses the pair
alone, and nothing but the latch changes (log 10). -/
def Obligations.SymbolDecidesItsPair : Prop :=
  ∀ (s : State) (low high : Byte),
    decode (.symbol low high) = .ok (if low.toNat < high.toNat then .sym1 low high else .sym0 low high) ∧
    (high.toNat ≤ low.toNat → exec (.sym0 low high) s = .next { s with ret := .bit 0#1 }) ∧
    (low.toNat < high.toNat → exec (.sym1 low high) s = .next { s with ret := .bit 1#1 })

/-! ## The pin, the Pulse Timer, the delay, the guard -/

/-- R120 (decision D8): a fault wins over the level; no state is written (the result is in the latch, log 8). -/
def Obligations.PinReadReturnsLevelOrFault : Prop :=
  ∀ s : State, exec .pinRead s =
    .next { s with ret := .pinRead (if s.inputs.pinFault = true then .fault else .ok s.inputs.pinIn) }

/-- R121, R122 (decision D12): PIN_OUT takes the requested level even when the set is reported failed (the result
is in the latch, log 8). -/
def Obligations.PinSetOperationsWritePinOut : Prop :=
  ∀ s : State,
    exec .pinSetLow s = .next { s with
      pinOut := .low, ret := .pinSet (if s.inputs.pinFault = true then .fault else .ok) } ∧
    exec .pinSetHigh s = .next { s with
      pinOut := .high, ret := .pinSet (if s.inputs.pinFault = true then .fault else .ok) }

/-- PIN_NONE (R98, decision D8) and CMD.NONE (R103, decision D24) write nothing (log 11, 12). -/
def Obligations.NoOperationAndNoCommandWriteNothing : Prop :=
  ∀ s : State, exec .pinNone s = .next s ∧ exec .cmdNone s = .next s

/-- R124 (decision D26): "the order of the three tests is fixed: fault first, then level, then bound" (the result
is in the latch, log 8). -/
def Obligations.WaitStepTestsFaultLevelBound : Prop :=
  ∀ (target : Level) (s : State), exec (.waitStep target) s = .next (
    if s.inputs.pinFault = true then { s with ret := .wait .fault }
    else if s.inputs.pinIn = target then { s with cnt := 0#8, ret := .wait (.done s.cnt) }
    else if s.cnt = 255#8 then { s with ret := .wait .expired }
    else { s with cnt := s.cnt + 1#8, ret := .wait .cont })

/-- R126 (decision D10): DLY counts down to 0 and Done is reported at 0 (in the latch, log 8). -/
def Obligations.DelayStepCountsDownToDone : Prop :=
  ∀ s : State, exec .delayStep s = .next (
    if s.dly ≠ 0#15 then { s with dly := s.dly - 1#15, ret := .delay .cont }
    else { s with ret := .delay .done })

/-- R141 and R142: the guard's two operations under both implementations, and the port they drive (R99). -/
def Obligations.GuardOperationsDriveTheMask : Prop :=
  ∀ s : State,
    exec .guardEnable s = .next { s with guard := false } ∧
    (s.cfg.guardImpl = .real → exec .guardDisable s = .next { s with guard := true }) ∧
    (s.cfg.guardImpl = .noop → exec .guardDisable s = .next { s with guard := false }) ∧
    ({ s with guard := true } : State).irqMask = 1#1 ∧ ({ s with guard := false } : State).irqMask = 0#1

/-- R125 (derived by the spec): what a wait returns as a function of the samples, through `wait_for_level` of R107:
Done(j) at the first match j <= 255, Expired after 256 wrong samples, Fault at a faulting sample before that. That
the faulting tick may be one with `rst` = 1, which the run does not look at, is the model's choice (log 28). -/
def Obligations.WaitReturnsTheFirstMatch : Prop :=
  ∀ (target : Level) (s : State) (wrong rest : List Event),
    (∀ e ∈ wrong, sampleOf (otherLevel target) e = true) →
    (∀ e, wrong.length ≤ 255 → sampleOf target e = true → s.script = wrong ++ e :: rest →
      waitForLevel target s = (.done (BitVec.ofNat 8 wrong.length),
        { s with cnt := 0#8, script := rest, tick := s.tick + wrong.length + 1 })) ∧
    (wrong.length = 256 → s.script = wrong ++ rest →
      waitForLevel target s = (.expired,
        { s with cnt := 255#8, script := rest, tick := s.tick + 256 })) ∧
    (∀ inp, wrong.length ≤ 255 → inp.pinFault = true → s.script = wrong ++ .tick inp :: rest →
      waitForLevel target s = (.fault,
        { s with cnt := BitVec.ofNat 8 wrong.length, script := rest, tick := s.tick + wrong.length + 1 }))

/-- R126, R107 (decision D10): `delay(n)` reports Done exactly n ticks after the load, for every legal n, and touches
only DLY. That a tick with `rst` = 1 counts like any other is the model's choice (log 28). -/
def Obligations.DelayLastsExactlyItsTicks : Prop :=
  ∀ (n : HoldTicks) (s : State), (delayFor n s).1 = .done ∧ (delayFor n s).2.tick = s.tick + n.ticks ∧
    (delayFor n s).2.registers = { s with dly := 0#15 }.registers

/-- R98, R23 (decision D8): at a tick with `pin_op` = PIN_NONE the step is the same for every `pin_in` and
`pin_fault`. -/
def Obligations.PinInputsAreIgnoredWithoutAPinOperation : Prop :=
  ∀ (s : State) (inp : Inputs) (l : Level) (f : Bool) (rest : List Event),
    s.script = .tick inp :: rest → s.pinOp = 0#2 →
    ∃ t, step s = .next t ∧
      step { s with script := .tick { inp with pinIn := l, pinFault := f } :: rest } = .next t

/-- R21, R98, R121, R122 (decisions D8, D12): PIN_OUT after a tick is what `pin_op` announces. -/
def Obligations.PinOutFollowsTheAnnouncedOperation : Prop :=
  ∀ (s : State) (inp : Inputs) (rest : List Event), s.script = .tick inp :: rest → inp.rst = false →
    ∃ t, step s = .next t ∧
      t.pinOut = match decodePinOp s.pinOp with
        | .pinSetLow => .low
        | .pinSetHigh => .high
        | _ => s.pinOut

/-- R215, R219 (decisions D8, D12, D33, D34): a fault at any pin operation ends the read with PIN_FAULT in the same
step; the guard is released, PIN_OUT is what the last set asked for, and all else stands, except that an accept step
has cleared it. -/
def Obligations.PinFaultAbortsAtAnyPinOperation : Prop :=
  ∀ (s : State) (inp : Inputs) (rest : List Event), s.script = .tick inp :: rest → inp.rst = false →
    inp.pinFault = true → s.pinOp ≠ 0#2 →
    ∃ t, step s = .next t ∧
      (s.phase ≠ .idle → t.registers = { s with
        phase := .idle, code := .pinFault, guard := false
        pinOut := if s.pinOp = 3#2 then .high else s.pinOut }.registers) ∧
      (s.phase = .idle → t.registers = { State.reset with code := .pinFault, pinOut := .low }.registers)

/-! ## The sequencer -/

/-- R150 (decisions D24, D7, D34): the accept step, with and without a failed PIN_SET_LOW. -/
def Obligations.ReadClearsTakesTheGuardAndPullsLow : Prop :=
  ∀ s : State, exec .read s = .next { s with
    bitIdx := 0#6, cnt := 0#8, pulse := clearedPulses, sr := 0#40, hTmp := 0#16, tTmp := 0#16
    ckExp := 0#8, ckCalc := 0#8, hum := 0#16, temp := 0#16, pinOut := .low
    code := if s.inputs.pinFault = true then .pinFault else .none
    guard := !s.inputs.pinFault && decide (s.cfg.guardImpl = .real)
    dly := if s.inputs.pinFault = true then 0#15 else BitVec.ofNat 15 (s.cfg.tStartLow.ticks - 1)
    phase := if s.inputs.pinFault = true then .idle else .startLow }

/-- R152: IDLE with no command writes nothing and performs no pin operation, so the last result stays as
long as `start` is 0, whatever the pin inputs. -/
def Obligations.IdleKeepsTheLastResult : Prop :=
  ∀ s : State, exec .idle s = .next s ∧
    (∀ (inp : Inputs) (rest : List Event), s.script = .tick inp :: rest → inp.rst = false →
      inp.start = false → s.phase = .idle →
      s.pinOp = 0#2 ∧ step s = .next { s with script := rest, tick := s.tick + 1 })

/-- R153 (decisions D10, D12, D33): START_LOW's three outcomes. -/
def Obligations.StartLowHoldsThenReleases : Prop :=
  ∀ s : State, exec .startLow s = .next (
    if s.dly ≠ 0#15 then { s with dly := s.dly - 1#15 }
    else if s.inputs.pinFault = true then
      { s with pinOut := .high, code := .pinFault, guard := false, phase := .idle }
    else { s with
      pinOut := .high, dly := BitVec.ofNat 15 (s.cfg.tStartHigh.ticks - 1), phase := .startHigh })

/-- R154 (decision D10): START_HIGH's two outcomes; no input is read. -/
def Obligations.StartHighHoldsThenListens : Prop :=
  ∀ s : State, exec .startHigh s = .next (
    if s.dly ≠ 0#15 then { s with dly := s.dly - 1#15 }
    else { s with cnt := 0#8, phase := .ackFall })

/-- R156, R157, R158 (decisions D26, D28, D33): the three acknowledgement waits, outcome by outcome: the awaited level
is seen (the elapsed count is discarded), the pin fails, the bound is passed, or the wait goes on. -/
def Obligations.AcknowledgementWaitsForFallRiseFall : Prop :=
  ∀ s : State,
    (exec .ackFall s = .next (
      if s.inputs.pinFault = true then { s with code := .pinFault, guard := false, phase := .idle }
      else if s.inputs.pinIn = .low then { s with cnt := 0#8, phase := .ackRise }
      else if s.cnt = 255#8 then { s with code := .notPresent, guard := false, phase := .idle }
      else { s with cnt := s.cnt + 1#8 })) ∧
    (exec .ackRise s = .next (
      if s.inputs.pinFault = true then { s with code := .pinFault, guard := false, phase := .idle }
      else if s.inputs.pinIn = .high then { s with cnt := 0#8, phase := .ackEnd }
      else if s.cnt = 255#8 then { s with code := .notPresent, guard := false, phase := .idle }
      else { s with cnt := s.cnt + 1#8 })) ∧
    (exec .ackEnd s = .next (
      if s.inputs.pinFault = true then { s with code := .pinFault, guard := false, phase := .idle }
      else if s.inputs.pinIn = .low then { s with cnt := 0#8, phase := .bitLow }
      else if s.cnt = 255#8 then { s with code := .notPresent, guard := false, phase := .idle }
      else { s with cnt := s.cnt + 1#8 }))

/-- R159, with the tests and CNT + 1 of R124 (decision D26) and the exit of R166 (decision D33): BIT_LOW. On Done the
count goes to PULSE_LO[BITIDX] and to no other entry. -/
def Obligations.BitLowStoresTheLowCount : Prop :=
  ∀ s : State, ∃ t, exec .bitLow s = .next t ∧
    t = (if s.inputs.pinFault = true then { s with code := .pinFault, guard := false, phase := .idle }
      else if s.inputs.pinIn = .high then { s with cnt := 0#8, phase := .bitHigh, pulse := t.pulse }
      else if s.cnt = 255#8 then { s with code := .timeout, guard := false, phase := .idle }
      else { s with cnt := s.cnt + 1#8 }) ∧
    (s.inputs.pinFault = false → s.inputs.pinIn = .high → s.bitIdx.toNat < 40 →
      ∀ j < 40, t.pulseAt j = if j = s.bitIdx.toNat then ⟨s.cnt, (s.pulseAt j).high⟩ else s.pulseAt j)

/-- R160, with the tests and CNT + 1 of R124 (decision D26) and the exit of R166 (decision D33): BIT_HIGH. On Done the
count goes to PULSE_HI[BITIDX] and to no other entry; after pair 39 the guard is released, BITIDX stays and DECIDE
follows, else BITIDX moves on. That it counts on modulo 64 from 40 to 63, which no run reaches, is the model's choice
(log 6). -/
def Obligations.BitHighStoresTheHighCount : Prop :=
  ∀ s : State, ∃ t, exec .bitHigh s = .next t ∧
    t = (if s.inputs.pinFault = true then { s with code := .pinFault, guard := false, phase := .idle }
      else if s.inputs.pinIn = .low then
        if s.bitIdx = 39#6 then { s with cnt := 0#8, pulse := t.pulse, guard := false, phase := .decideBits }
        else { s with cnt := 0#8, pulse := t.pulse, bitIdx := s.bitIdx + 1#6, phase := .bitLow }
      else if s.cnt = 255#8 then { s with code := .timeout, guard := false, phase := .idle }
      else { s with cnt := s.cnt + 1#8 }) ∧
    (s.inputs.pinFault = false → s.inputs.pinIn = .low → s.bitIdx.toNat < 40 →
      ∀ j < 40, t.pulseAt j = if j = s.bitIdx.toNat then ⟨(s.pulseAt j).low, s.cnt⟩ else s.pulseAt j)

/-- R166, R219 (decision D33): the error exit writes CODE, GUARD and PHASE and nothing else. -/
def Obligations.AbortWritesCodeGuardAndPhaseOnly : Prop :=
  ∀ (e : ErrorKind) (s : State), exec (.abort e) s = .next { s with
    code := match e with
      | .notPresent => .notPresent
      | .checksumMismatch => .checksumMismatch
      | .invalidData => .invalidData
      | .timeout => .timeout
      | .pinFault => .pinFault
    guard := false
    phase := .idle }

/-- R103, R162 (decisions D24, D27; log 11): the command is READ in IDLE and is ignored in every other phase. -/
def Obligations.CommandReadIsReadInIdleOnly : Prop :=
  ∀ s : State, (s.phase = .idle → exec .cmdRead s = exec .read s ∧ ∃ t, exec .cmdRead s = .next t) ∧
    (s.phase ≠ .idle → exec .cmdRead s = .next s)

/-- R155 (decisions D26, D33; log 8 for `ret`): a waiting phase's step is one WAIT_STEP with the phase's target
followed by the action of its outcome. -/
def Obligations.WaitingPhaseIsOneWaitStep : Prop :=
  ∀ (s u : State) (inp : Inputs) (rest : List Event) (target : Level), s.script = .tick inp :: rest →
    inp.rst = false → waitTarget s.phase = some target → exec (.waitStep target) s = .next u →
    ∃ t, step s = .next t ∧
      (u.ret = .wait .cont → t.registers = u.registers) ∧
      (u.ret = .wait .fault →
        t.registers = { u with code := .pinFault, guard := false, phase := .idle }.registers) ∧
      (u.ret = .wait .expired →
        t.registers = { u with code := (expiredKind s.phase).code, guard := false, phase := .idle }.registers) ∧
      (∀ e, u.ret = .wait (.done e) → t.phase ∈ successors s.phase ∧ t.cnt = 0#8 ∧ t.code = s.code ∧
        (between .ackFall .ackEnd s.phase = true → t.registers = { u with phase := t.phase }.registers))

/-- R162 (decision D27): `start` at a tick with PHASE != IDLE changes nothing. -/
def Obligations.StartIsIgnoredWhileBusy : Prop :=
  ∀ (s : State) (inp : Inputs) (b : Bool) (rest : List Event), s.script = .tick inp :: rest → s.phase ≠ .idle →
    ∃ t, step s = .next t ∧ step { s with script := .tick { inp with start := b } :: rest } = .next t

/-- R51 (derived by the spec): "the state after the accept tick ... is a function of the configuration and of
the inputs", and of nothing that happened before. -/
def Obligations.AcceptStateIsIndependentOfThePast : Prop :=
  ∀ (s s' : State) (inp : Inputs) (rest rest' : List Event), s.cfg = s'.cfg → s.phase = .idle → s'.phase = .idle →
    s.script = .tick inp :: rest → s'.script = .tick inp :: rest' → inp.rst = false → inp.start = true →
    ∃ t t', step s = .next t ∧ step s' = .next t' ∧ t.registers = t'.registers

/-- R151, R166 (decision D33): a tick moves PHASE only to its successor or, ending the read with an outcome, to IDLE; a
phase other than IDLE stays only while its delay or wait goes on. -/
def Obligations.PhaseMovesOnlyAsTheSequenceSays : Prop :=
  ∀ (s t : State) (inp : Inputs) (rest : List Event), s.script = .tick inp :: rest → inp.rst = false →
    step s = .next t →
    (t.phase = s.phase ∨ t.phase ∈ successors s.phase ∨ (t.phase = .idle ∧ t.code ≠ .none)) ∧
    (t.phase = s.phase → s.phase ≠ .idle →
      (between .startLow .startHigh s.phase = true ∧ s.dly ≠ 0#15 ∧ t.dly = s.dly - 1#15) ∨
      (waitTarget s.phase ≠ none ∧ s.cnt ≠ 255#8 ∧ t.cnt = s.cnt + 1#8))

/-- R210 to R216 (decisions D8, D13, D26): each outcome is recorded by exactly the step and under exactly the
condition the spec names, and a busy block's step records an outcome exactly when it returns to IDLE. -/
def Obligations.EachOutcomeHasExactlyItsCause : Prop :=
  ∀ (s t : State) (inp : Inputs) (rest : List Event), Inv s → s.phase ≠ .idle → s.script = .tick inp :: rest →
    inp.rst = false → step s = .next t →
    (t.code = .notPresent ↔ between .ackFall .ackEnd s.phase = true ∧ inp.pinFault = false ∧
      waitTarget s.phase = some (otherLevel inp.pinIn) ∧ s.cnt = 255#8) ∧
    (t.code = .timeout ↔ between .bitLow .bitHigh s.phase = true ∧ inp.pinFault = false ∧
      waitTarget s.phase = some (otherLevel inp.pinIn) ∧ s.cnt = 255#8) ∧
    (t.code = .checksumMismatch ↔ s.phase = .check ∧ checksumOf s.sr ≠ rawByte s.sr 4) ∧
    (t.code = .invalidData ↔ s.phase = .range ∧ 1000 < s.hTmp.toNat) ∧
    (t.code = .pinFault ↔ inp.pinFault = true ∧ s.pinOp ≠ 0#2) ∧
    (t.code = .ok ↔ s.phase = .success) ∧
    (t.code = .none ↔ t.phase ≠ .idle)

/-- R143, R144 (derived by the spec): after every step the guard is held exactly in START_LOW to BIT_HIGH of an
instance with the real guard, so never in IDLE. -/
def Obligations.GuardIsHeldExactlyFromStartToLastPair : Prop :=
  ∀ s t : State, Inv s → step s = .next t →
    t.guard = (decide (t.cfg.guardImpl = .real) && between .startLow .bitHigh t.phase)

/-! ## Whole waits, holds, reads -/

/-- R211, R214, R125 (decisions D26, D33): 256 samples of the wrong level end any of the five waits with its own
error, CNT left at 255 and nothing else changed. -/
def Obligations.WrongLevelFor256SamplesExpires : Prop :=
  ∀ (s : State) (target : Level) (wrong rest : List Event), waitTarget s.phase = some target → s.cnt = 0#8 →
    wrong.length = 256 → (∀ e ∈ wrong, sampleOf (otherLevel target) e = true) → s.script = wrong ++ rest →
    ∃ t, runFor 256 s = .next t ∧ t.script = rest ∧
      t.registers = { s with
        cnt := 255#8, code := (expiredKind s.phase).code, guard := false, phase := .idle }.registers

/-- R168 (derived by the spec; decision D26): the pair of a low level of a + 1 ticks and a high level of b + 1 ticks,
whose first low tick was the sample before, is stored as (a, b), up to 255 each, in its own entry alone. -/
def Obligations.PairDurationsAreStoredLessOne : Prop :=
  ∀ (s : State) (lows highs rest : List Event) (rise fall : Event), s.phase = .bitLow → s.cnt = 0#8 →
    s.bitIdx.toNat ≤ 39 → lows.length ≤ 255 → highs.length ≤ 255 →
    (∀ e ∈ lows, sampleOf .low e = true) → sampleOf .high rise = true →
    (∀ e ∈ highs, sampleOf .high e = true) → sampleOf .low fall = true →
    s.script = lows ++ rise :: (highs ++ fall :: rest) →
    ∃ t, runFor (lows.length + highs.length + 2) s = .next t ∧ t.script = rest ∧
      (∀ j < 40, t.pulseAt j = if j = s.bitIdx.toNat
        then ⟨BitVec.ofNat 8 lows.length, BitVec.ofNat 8 highs.length⟩ else s.pulseAt j) ∧
      t.registers = (if s.bitIdx = 39#6
        then { s with pulse := t.pulse, guard := false, phase := .decideBits }
        else { s with pulse := t.pulse, bitIdx := s.bitIdx + 1#6 }).registers

/-- R257, R153, R154 (decision D10), for scripts of ticks alone, without host reads: from an accept at tick 0 whose
two set operations do not fail, the line is asked low for exactly T_START_LOW ticks, then released; no pin is touched
in between; the first sample is taken at tick T_START_LOW + T_START_HIGH + 1. -/
def Obligations.HoldsLastExactlyTheirTicks : Prop :=
  ∀ (s : State) (a b : Inputs), s.phase = .idle → (∀ e ∈ s.script, plainTick e = true) →
    s.cfg.tStartLow.ticks + s.cfg.tStartHigh.ticks + 2 ≤ s.script.length →
    s.script[0]? = some (.tick a) → a.start = true → a.pinFault = false →
    s.script[s.cfg.tStartLow.ticks]? = some (.tick b) → b.pinFault = false →
    (∀ k, 1 ≤ k → k ≤ s.cfg.tStartLow.ticks → ∃ t, runFor k s = .next t ∧ t.phase = .startLow ∧
      t.pinOut = .low ∧ t.pinOp = if k = s.cfg.tStartLow.ticks then 3#2 else 0#2) ∧
    (∀ k, s.cfg.tStartLow.ticks < k → k ≤ s.cfg.tStartLow.ticks + s.cfg.tStartHigh.ticks →
      ∃ t, runFor k s = .next t ∧ t.phase = .startHigh ∧ t.pinOut = .high ∧ t.pinOp = 0#2) ∧
    (∃ t, runFor (s.cfg.tStartLow.ticks + s.cfg.tStartHigh.ticks + 1) s = .next t ∧ t.phase = .ackFall ∧
      t.cnt = 0#8 ∧ t.pinOut = .high ∧ t.pinOp = 1#2)

/-- R164 (derived by the spec), for scripts of ticks alone, without host reads: "Every read ends": from an accept at
tick 0, without reset, an outcome is recorded and the block is back in IDLE at the latest at tick T_START_LOW +
T_START_HIGH + 83 * 256 + 5, whatever the inputs. -/
def Obligations.EveryReadEndsWithinTheBound : Prop :=
  ∀ (s : State) (a : Inputs), s.phase = .idle → (∀ e ∈ s.script, plainTick e = true) →
    s.script[0]? = some (.tick a) → a.start = true → longestRead s.cfg < s.script.length →
    ∃ k t, k ≤ longestRead s.cfg ∧ runFor (k + 1) s = .next t ∧ t.phase = .idle ∧ t.code ≠ .none

/-- R164 (derived by the spec): no read succeeds earlier than T_START_LOW + T_START_HIGH + 83 + 5 ticks after its accept
tick, whatever the inputs. `k` counts steps, which are the ticks where the script holds no host read. -/
def Obligations.NoReadSucceedsEarlier : Prop :=
  ∀ (s t : State) (a : Inputs) (rest : List Event) (k : Nat), s.phase = .idle → s.script = .tick a :: rest →
    a.rst = false → a.start = true → runFor (k + 1) s = .next t → t.code = .ok → shortestRead s.cfg ≤ k

/-- 95_test_vectors.md section 5, property 6: for every instance and every 40-bit value there is an input
sequence, from reset, that makes SR that value at CHECK. -/
def Obligations.EveryFrameCanBeReceived : Prop :=
  ∀ (c : Config) (f : Frame), ∃ (script : List Event) (k : Nat) (t : State),
    runFor k { State.reset with cfg := c, script := script } = .next t ∧
    t.phase = .check ∧ t.sr = f ∧ t.code = .none

/-! ## From the captured pairs to the Reading -/

/-- R180, R181, R62 (decision D29): DECIDE puts the bit of pair i, and of that pair alone, at SR[39 - i]; it writes
SR and PHASE only. -/
def Obligations.DecidePacksEveryPairInOrder : Prop :=
  ∀ s : State, ∃ t, exec .decideBits s = .next t ∧ t = { s with sr := t.sr, phase := .check } ∧
    ∀ i < 40, t.sr.getLsbD (39 - i) = decide ((s.pulseAt i).low.toNat < (s.pulseAt i).high.toNat)

/-- 95_test_vectors.md section 5, property 7 (R91, R168): adding the same amount to every stored count, none reaching
256, changes no decided bit. -/
def Obligations.DecidedBitsIgnoreAUniformOffset : Prop :=
  ∀ (s t u : State) (d : Nat),
    (∀ i < 40, (s.pulseAt i).low.toNat + d < 256 ∧ (s.pulseAt i).high.toNat + d < 256) →
    exec .decideBits s = .next t →
    exec .decideBits { s with
      pulse := s.pulse.map fun p => ⟨p.low + BitVec.ofNat 8 d, p.high + BitVec.ofNat 8 d⟩ } = .next u →
    u.sr = t.sr

/-- R183, R184 (decisions D14, which value is which, and D33, the exit): CHECK on every frame: pass exactly when the
sum of the first four bytes modulo 256 is the fifth; otherwise CHECKSUM_MISMATCH with (CK_EXP, CK_CALC) the received
byte and the sum. SR is kept. -/
def Obligations.CheckComparesTheSumOfTheFirstFour : Prop :=
  ∀ (s : State) (b0 b1 b2 b3 b4 : Byte),
    exec .check { s with sr := b0 ++ b1 ++ b2 ++ b3 ++ b4 } = .next (
      if (b0.toNat + b1.toNat + b2.toNat + b3.toNat) % 256 ≠ b4.toNat then
        { s with
          sr := b0 ++ b1 ++ b2 ++ b3 ++ b4, ckExp := b4
          ckCalc := BitVec.ofNat 8 ((b0.toNat + b1.toNat + b2.toNat + b3.toNat) % 256)
          code := .checksumMismatch, guard := false, phase := .idle }
      else { s with sr := b0 ++ b1 ++ b2 ++ b3 ++ b4, phase := .interp })

/-- R190, R191 (decision D30: byte 2 is unsigned): INTERP.INT on every frame: ten times byte 0 and ten times byte 2;
bytes 1 and 3 and the checksum have no effect. -/
def Obligations.InterpIntScalesWholeUnits : Prop :=
  ∀ (s : State) (h x t y c : Byte), ∃ u,
    exec .interpInt { s with sr := h ++ x ++ t ++ y ++ c } = .next u ∧
    u = { s with sr := h ++ x ++ t ++ y ++ c, hTmp := u.hTmp, tTmp := u.tTmp, phase := .range } ∧
    u.hTmp.toNat = 10 * h.toNat ∧ u.tTmp.toInt = 10 * (t.toNat : Int)

/-- R192: INTERP.FIX on every frame: the humidity field as it is, the temperature as sign and magnitude. -/
def Obligations.InterpFixReadsSignAndMagnitude : Prop :=
  ∀ (s : State) (h : BitVec 16) (sg : BitVec 1) (m : BitVec 15) (c : Byte), ∃ u,
    exec .interpFix { s with sr := h ++ sg ++ m ++ c } = .next u ∧
    u = { s with sr := h ++ sg ++ m ++ c, hTmp := u.hTmp, tTmp := u.tTmp, phase := .range } ∧
    u.hTmp = h ∧ u.tTmp.toInt = if sg = 1#1 then -(m.toNat : Int) else (m.toNat : Int)

/-- R196, R197 (decision D33 for the exit): INVALID_DATA exactly when H_TMP > 1000; T_TMP plays no part and both
temporaries are kept. -/
def Obligations.RangeRejectsHumidityAbove100Percent : Prop :=
  ∀ s : State, exec .range s = .next (
    if 1000 < s.hTmp.toNat then { s with code := .invalidData, guard := false, phase := .idle }
    else { s with phase := .success })

/-- R198: SUCCESS writes HUM, TEMP and CODE in one step and returns to IDLE, with VALID and DONE then 1 and BUSY 0;
no other operation gives HUM or TEMP a new value other than 0, or CODE the value OK (decisions D11 and D13, R216). -/
def Obligations.SuccessCommitsTheReading : Prop :=
  (∀ s : State, ∃ t, exec .success s = .next t ∧
    t = { s with hum := s.hTmp, temp := s.tTmp, code := .ok, phase := .idle } ∧
    t.busy = false ∧ t.done = true ∧ t.valid = true) ∧
  (∀ (i : Instr) (s u : State), i ≠ .success → exec i s = .next u →
    (u.hum = s.hum ∧ u.temp = s.temp ∧ (u.code = .ok → s.code = .ok)) ∨
    (u.hum = 0#16 ∧ u.temp = 0#16 ∧ u.code ≠ .ok))

/-- R33, R34, R69, R198 (decisions D11, D13): HUM and TEMP change only together, in SUCCESS with CODE = OK, or back to
0 with CODE other than OK. -/
def Obligations.ReadingIsCommittedWhole : Prop :=
  ∀ s t : State, step s = .next t → t.hum ≠ s.hum ∨ t.temp ≠ s.temp ∨ (t.code = .ok ∧ s.code ≠ .ok) →
    (s.phase = .success ∧ t.hum = s.hTmp ∧ t.temp = s.tTmp ∧ t.code = .ok ∧ t.phase = .idle) ∨
    (t.hum = 0#16 ∧ t.temp = 0#16 ∧ t.code ≠ .ok)

/-- R183, R190, R192, R196, R198 (decisions D14, D29, D30) and 95_test_vectors.md section 5, property 6: the phases
CHECK to SUCCESS compute the pure function `frameOutcome` of VARIANT and SR, written in the source's arithmetic on
bytes. -/
def Obligations.DecodePathComputesTheFrameOutcome : Prop :=
  ∀ (s : State) (ticks rest : List Event), s.phase = .check → ticks.length = 4 →
    (∀ e ∈ ticks, plainTick e = true) → s.script = ticks ++ rest →
    match frameOutcome s.cfg.variant s.sr with
    | .checksumMismatch expected calculated => ∃ t, runFor 1 s = .next t ∧ t.phase = .idle ∧
        t.code = .checksumMismatch ∧ t.ckExp.toNat = expected ∧ t.ckCalc.toNat = calculated ∧
        t.hum = s.hum ∧ t.temp = s.temp ∧ t.sr = s.sr
    | .invalidData => ∃ t, runFor 3 s = .next t ∧ t.phase = .idle ∧ t.code = .invalidData ∧
        t.hum = s.hum ∧ t.temp = s.temp ∧ t.sr = s.sr
    | .reading hum temp => ∃ t, runFor 4 s = .next t ∧ t.phase = .idle ∧ t.code = .ok ∧
        t.hum.toNat = hum ∧ t.temp.toInt = temp ∧ t.sr = s.sr

/-! ## Accessors and host registers -/

/-- R201, R202, R203 (decision D18 for the last): each accessor delivers its register's word and the exact quantity
(log 18), and changes nothing but the latch (log 8). -/
def Obligations.AccessorsDeliverExactQuantities : Prop :=
  ∀ s : State,
    (∃ w : HostWord, exec .humidity s = .next { s with ret := .reading w ⟨(s.hum.toNat : Int), 10⟩ } ∧
      w.toNat = s.hum.toNat) ∧
    (∃ w : HostWord, exec .temperature s = .next { s with ret := .reading w ⟨s.temp.toInt, 10⟩ } ∧
      w.toInt = s.temp.toInt) ∧
    (∃ w : HostWord,
      exec .fahrenheit s = .next { s with ret := .reading w ⟨18 * s.temp.toInt + 3200, 100⟩ } ∧
      w.toInt = 18 * s.temp.toInt + 3200)

/-- R203 (decision D18; both in the latch, log 8): the FAHRENHEIT quantity is the source's "temperature·1.8+32" of the
TEMPERATURE quantity, exactly. -/
def Obligations.FahrenheitIsTheSourceFormula : Prop :=
  ∀ (s t u : State) (w v : HostWord) (c f : Quantity),
    exec .temperature s = .next t → t.ret = .reading w c →
    exec .fahrenheit s = .next u → u.ret = .reading v f →
    f.value = c.value * (18 / 10) + 32

/-- R41 (decision D17): every field of STATUS is a copy of the state or a flag of R40, and the rest is 0. -/
def Obligations.StatusShowsEveryField : Prop :=
  ∀ s : State,
    (readRegister 0#3 s).extractLsb' 0 3 = s.code.bits ∧
    (readRegister 0#3 s).getLsbD 3 = decide (s.phase ≠ .idle) ∧
    (readRegister 0#3 s).getLsbD 4 = decide (s.code ≠ .none) ∧
    (readRegister 0#3 s).getLsbD 5 = decide (s.code = .ok) ∧
    (readRegister 0#3 s).getLsbD 6 = s.guard ∧
    (readRegister 0#3 s).getLsbD 7 = decide (s.pinOut = .high) ∧
    (readRegister 0#3 s).extractLsb' 8 4 = s.phase.code ∧
    (readRegister 0#3 s).extractLsb' 12 4 = 0#4 ∧
    (readRegister 0#3 s).extractLsb' 16 6 = s.bitIdx ∧
    (readRegister 0#3 s).extractLsb' 22 10 = 0#10

/-- R42, R43, R47 (decision D17): CFG, CKSUM and the two reserved numbers, field by field. -/
def Obligations.ConfigAndChecksumRegistersShowTheirFields : Prop :=
  ∀ s : State,
    (readRegister 1#3 s).getLsbD 0 = decide (s.cfg.variant = .fix) ∧
    (readRegister 1#3 s).getLsbD 1 = decide (s.cfg.guardImpl = .real) ∧
    (readRegister 1#3 s).extractLsb' 2 30 = 0#30 ∧
    (readRegister 2#3 s).extractLsb' 0 8 = s.ckExp ∧
    (readRegister 2#3 s).extractLsb' 8 8 = s.ckCalc ∧
    (readRegister 2#3 s).extractLsb' 16 16 = 0#16 ∧
    readRegister 6#3 s = 0#32 ∧ readRegister 7#3 s = 0#32
end

