-- ==== Sys2Proof/Laws/Decode.lean ====
section
/-! SUPPORT. The code tables read back: each code of an enumeration stands for what it encodes. -/

namespace Sys2Proof

@[simp] theorem Phase.ofCode_code (p : Phase) : Phase.ofCode p.code = some p := by cases p <;> rfl

@[simp] theorem ErrorKind.ofBits_code (e : ErrorKind) : ErrorKind.ofBits e.code.bits = some e := by
  cases e <;> rfl

@[simp] theorem Level.ofBit_bit (l : Level) : Level.ofBit l.bit = l := by cases l <;> rfl

@[simp] theorem Variant.ofBit_bit (v : Variant) : Variant.ofBit v.bit = v := by cases v <;> rfl

/-- A code stands for a phase exactly when it is not reserved (30_encoding.md R101). -/
theorem Phase.ofCode_isSome (c : BitVec 4) : (Phase.ofCode c).isSome = decide (c.toNat ≤ 12) := by
  revert c; decide

/-- A bit of an INT frame belongs to the byte field R94 gives it. -/
theorem getLsbD_frameInt (h x t y c : Byte) (j : Nat) :
    BitVec.getLsbD (w := 40) (h ++ x ++ t ++ y ++ c) j =
      if j < 8 then c.getLsbD j else if j < 16 then y.getLsbD (j - 8)
      else if j < 24 then t.getLsbD (j - 16) else if j < 32 then x.getLsbD (j - 24)
      else h.getLsbD (j - 32) := by
  change BitVec.getLsbD (w := 8 + 8 + 8 + 8 + 8) (h ++ x ++ t ++ y ++ c) j = _
  simp only [BitVec.getLsbD_append, Nat.sub_sub]
  split_ifs <;> first | rfl | (exfalso; omega)

/-- A bit of a FIX frame belongs to the field R95 gives it. -/
theorem getLsbD_frameFix (h : BitVec 16) (s : BitVec 1) (m : BitVec 15) (c : Byte) (j : Nat) :
    BitVec.getLsbD (w := 40) (h ++ s ++ m ++ c) j =
      if j < 8 then c.getLsbD j else if j < 23 then m.getLsbD (j - 8)
      else if j < 24 then s.getLsbD (j - 23) else h.getLsbD (j - 24) := by
  change BitVec.getLsbD (w := 16 + 1 + 15 + 8) (h ++ s ++ m ++ c) j = _
  simp only [BitVec.getLsbD_append, Nat.sub_sub]
  split_ifs <;> first | rfl | (exfalso; omega)

end Sys2Proof
end

