-- ==== Sys2Proof/Laws/State.lean ====
section
/-! SUPPORT. One lemma per field per update of State, and the inputs each update leaves alone, so that no later proof
unfolds a record update. -/

namespace Sys2Proof.Machine

variable (s : State)

@[simp] theorem afterDelay_done_eq : s.afterDelay .done = s := rfl
@[simp] theorem afterWait_expired_eq : s.afterWait .expired = s := rfl
@[simp] theorem afterWait_fault_eq : s.afterWait .fault = s := rfl

@[simp] theorem disableGuard_cfg : s.disableGuard.cfg = s.cfg := rfl
@[simp] theorem disableGuard_phase : s.disableGuard.phase = s.phase := rfl
@[simp] theorem disableGuard_bitIdx : s.disableGuard.bitIdx = s.bitIdx := rfl
@[simp] theorem disableGuard_cnt : s.disableGuard.cnt = s.cnt := rfl
@[simp] theorem disableGuard_dly : s.disableGuard.dly = s.dly := rfl
@[simp] theorem disableGuard_pulse : s.disableGuard.pulse = s.pulse := rfl
@[simp] theorem disableGuard_sr : s.disableGuard.sr = s.sr := rfl
@[simp] theorem disableGuard_hTmp : s.disableGuard.hTmp = s.hTmp := rfl
@[simp] theorem disableGuard_tTmp : s.disableGuard.tTmp = s.tTmp := rfl
@[simp] theorem disableGuard_guard : s.disableGuard.guard = decide (s.cfg.guardImpl = .real) := rfl
@[simp] theorem disableGuard_pinOut : s.disableGuard.pinOut = s.pinOut := rfl
@[simp] theorem disableGuard_code : s.disableGuard.code = s.code := rfl
@[simp] theorem disableGuard_ckExp : s.disableGuard.ckExp = s.ckExp := rfl
@[simp] theorem disableGuard_ckCalc : s.disableGuard.ckCalc = s.ckCalc := rfl
@[simp] theorem disableGuard_hum : s.disableGuard.hum = s.hum := rfl
@[simp] theorem disableGuard_temp : s.disableGuard.temp = s.temp := rfl
@[simp] theorem disableGuard_script : s.disableGuard.script = s.script := rfl
@[simp] theorem disableGuard_tick : s.disableGuard.tick = s.tick := rfl
@[simp] theorem disableGuard_ret : s.disableGuard.ret = s.ret := rfl
@[simp] theorem disableGuard_inputs : s.disableGuard.inputs = s.inputs := rfl

@[simp] theorem enableGuard_cfg : s.enableGuard.cfg = s.cfg := rfl
@[simp] theorem enableGuard_phase : s.enableGuard.phase = s.phase := rfl
@[simp] theorem enableGuard_bitIdx : s.enableGuard.bitIdx = s.bitIdx := rfl
@[simp] theorem enableGuard_cnt : s.enableGuard.cnt = s.cnt := rfl
@[simp] theorem enableGuard_dly : s.enableGuard.dly = s.dly := rfl
@[simp] theorem enableGuard_pulse : s.enableGuard.pulse = s.pulse := rfl
@[simp] theorem enableGuard_sr : s.enableGuard.sr = s.sr := rfl
@[simp] theorem enableGuard_hTmp : s.enableGuard.hTmp = s.hTmp := rfl
@[simp] theorem enableGuard_tTmp : s.enableGuard.tTmp = s.tTmp := rfl
@[simp] theorem enableGuard_guard : s.enableGuard.guard = false := rfl
@[simp] theorem enableGuard_pinOut : s.enableGuard.pinOut = s.pinOut := rfl
@[simp] theorem enableGuard_code : s.enableGuard.code = s.code := rfl
@[simp] theorem enableGuard_ckExp : s.enableGuard.ckExp = s.ckExp := rfl
@[simp] theorem enableGuard_ckCalc : s.enableGuard.ckCalc = s.ckCalc := rfl
@[simp] theorem enableGuard_hum : s.enableGuard.hum = s.hum := rfl
@[simp] theorem enableGuard_temp : s.enableGuard.temp = s.temp := rfl
@[simp] theorem enableGuard_script : s.enableGuard.script = s.script := rfl
@[simp] theorem enableGuard_tick : s.enableGuard.tick = s.tick := rfl
@[simp] theorem enableGuard_ret : s.enableGuard.ret = s.ret := rfl
@[simp] theorem enableGuard_inputs : s.enableGuard.inputs = s.inputs := rfl

@[simp] theorem abortWith_cfg (e : ErrorKind) : (s.abortWith e).cfg = s.cfg := rfl
@[simp] theorem abortWith_phase (e : ErrorKind) : (s.abortWith e).phase = .idle := rfl
@[simp] theorem abortWith_bitIdx (e : ErrorKind) : (s.abortWith e).bitIdx = s.bitIdx := rfl
@[simp] theorem abortWith_cnt (e : ErrorKind) : (s.abortWith e).cnt = s.cnt := rfl
@[simp] theorem abortWith_dly (e : ErrorKind) : (s.abortWith e).dly = s.dly := rfl
@[simp] theorem abortWith_pulse (e : ErrorKind) : (s.abortWith e).pulse = s.pulse := rfl
@[simp] theorem abortWith_sr (e : ErrorKind) : (s.abortWith e).sr = s.sr := rfl
@[simp] theorem abortWith_hTmp (e : ErrorKind) : (s.abortWith e).hTmp = s.hTmp := rfl
@[simp] theorem abortWith_tTmp (e : ErrorKind) : (s.abortWith e).tTmp = s.tTmp := rfl
@[simp] theorem abortWith_guard (e : ErrorKind) : (s.abortWith e).guard = false := rfl
@[simp] theorem abortWith_pinOut (e : ErrorKind) : (s.abortWith e).pinOut = s.pinOut := rfl
@[simp] theorem abortWith_code (e : ErrorKind) : (s.abortWith e).code = e.code := rfl
@[simp] theorem abortWith_ckExp (e : ErrorKind) : (s.abortWith e).ckExp = s.ckExp := rfl
@[simp] theorem abortWith_ckCalc (e : ErrorKind) : (s.abortWith e).ckCalc = s.ckCalc := rfl
@[simp] theorem abortWith_hum (e : ErrorKind) : (s.abortWith e).hum = s.hum := rfl
@[simp] theorem abortWith_temp (e : ErrorKind) : (s.abortWith e).temp = s.temp := rfl
@[simp] theorem abortWith_script (e : ErrorKind) : (s.abortWith e).script = s.script := rfl
@[simp] theorem abortWith_tick (e : ErrorKind) : (s.abortWith e).tick = s.tick := rfl
@[simp] theorem abortWith_ret (e : ErrorKind) : (s.abortWith e).ret = s.ret := rfl
@[simp] theorem abortWith_inputs (e : ErrorKind) : (s.abortWith e).inputs = s.inputs := rfl

@[simp] theorem deliver_cfg (r : Returned) : (s.deliver r).cfg = s.cfg := rfl
@[simp] theorem deliver_phase (r : Returned) : (s.deliver r).phase = s.phase := rfl
@[simp] theorem deliver_bitIdx (r : Returned) : (s.deliver r).bitIdx = s.bitIdx := rfl
@[simp] theorem deliver_cnt (r : Returned) : (s.deliver r).cnt = s.cnt := rfl
@[simp] theorem deliver_dly (r : Returned) : (s.deliver r).dly = s.dly := rfl
@[simp] theorem deliver_pulse (r : Returned) : (s.deliver r).pulse = s.pulse := rfl
@[simp] theorem deliver_sr (r : Returned) : (s.deliver r).sr = s.sr := rfl
@[simp] theorem deliver_hTmp (r : Returned) : (s.deliver r).hTmp = s.hTmp := rfl
@[simp] theorem deliver_tTmp (r : Returned) : (s.deliver r).tTmp = s.tTmp := rfl
@[simp] theorem deliver_guard (r : Returned) : (s.deliver r).guard = s.guard := rfl
@[simp] theorem deliver_pinOut (r : Returned) : (s.deliver r).pinOut = s.pinOut := rfl
@[simp] theorem deliver_code (r : Returned) : (s.deliver r).code = s.code := rfl
@[simp] theorem deliver_ckExp (r : Returned) : (s.deliver r).ckExp = s.ckExp := rfl
@[simp] theorem deliver_ckCalc (r : Returned) : (s.deliver r).ckCalc = s.ckCalc := rfl
@[simp] theorem deliver_hum (r : Returned) : (s.deliver r).hum = s.hum := rfl
@[simp] theorem deliver_temp (r : Returned) : (s.deliver r).temp = s.temp := rfl
@[simp] theorem deliver_script (r : Returned) : (s.deliver r).script = s.script := rfl
@[simp] theorem deliver_tick (r : Returned) : (s.deliver r).tick = s.tick := rfl
@[simp] theorem deliver_ret (r : Returned) : (s.deliver r).ret = r := rfl
@[simp] theorem deliver_inputs (r : Returned) : (s.deliver r).inputs = s.inputs := rfl

@[simp] theorem drivePin_cfg (l : Level) : (s.drivePin l).cfg = s.cfg := rfl
@[simp] theorem drivePin_phase (l : Level) : (s.drivePin l).phase = s.phase := rfl
@[simp] theorem drivePin_bitIdx (l : Level) : (s.drivePin l).bitIdx = s.bitIdx := rfl
@[simp] theorem drivePin_cnt (l : Level) : (s.drivePin l).cnt = s.cnt := rfl
@[simp] theorem drivePin_dly (l : Level) : (s.drivePin l).dly = s.dly := rfl
@[simp] theorem drivePin_pulse (l : Level) : (s.drivePin l).pulse = s.pulse := rfl
@[simp] theorem drivePin_sr (l : Level) : (s.drivePin l).sr = s.sr := rfl
@[simp] theorem drivePin_hTmp (l : Level) : (s.drivePin l).hTmp = s.hTmp := rfl
@[simp] theorem drivePin_tTmp (l : Level) : (s.drivePin l).tTmp = s.tTmp := rfl
@[simp] theorem drivePin_guard (l : Level) : (s.drivePin l).guard = s.guard := rfl
@[simp] theorem drivePin_pinOut (l : Level) : (s.drivePin l).pinOut = l := rfl
@[simp] theorem drivePin_code (l : Level) : (s.drivePin l).code = s.code := rfl
@[simp] theorem drivePin_ckExp (l : Level) : (s.drivePin l).ckExp = s.ckExp := rfl
@[simp] theorem drivePin_ckCalc (l : Level) : (s.drivePin l).ckCalc = s.ckCalc := rfl
@[simp] theorem drivePin_hum (l : Level) : (s.drivePin l).hum = s.hum := rfl
@[simp] theorem drivePin_temp (l : Level) : (s.drivePin l).temp = s.temp := rfl
@[simp] theorem drivePin_script (l : Level) : (s.drivePin l).script = s.script := rfl
@[simp] theorem drivePin_tick (l : Level) : (s.drivePin l).tick = s.tick := rfl
@[simp] theorem drivePin_ret (l : Level) : (s.drivePin l).ret = s.ret := rfl
@[simp] theorem drivePin_inputs (l : Level) : (s.drivePin l).inputs = s.inputs := rfl

@[simp] theorem afterDelay_cont_cfg : (s.afterDelay .cont).cfg = s.cfg := rfl
@[simp] theorem afterDelay_cont_phase : (s.afterDelay .cont).phase = s.phase := rfl
@[simp] theorem afterDelay_cont_bitIdx : (s.afterDelay .cont).bitIdx = s.bitIdx := rfl
@[simp] theorem afterDelay_cont_cnt : (s.afterDelay .cont).cnt = s.cnt := rfl
@[simp] theorem afterDelay_cont_dly : (s.afterDelay .cont).dly = s.dly - 1#15 := rfl
@[simp] theorem afterDelay_cont_pulse : (s.afterDelay .cont).pulse = s.pulse := rfl
@[simp] theorem afterDelay_cont_sr : (s.afterDelay .cont).sr = s.sr := rfl
@[simp] theorem afterDelay_cont_hTmp : (s.afterDelay .cont).hTmp = s.hTmp := rfl
@[simp] theorem afterDelay_cont_tTmp : (s.afterDelay .cont).tTmp = s.tTmp := rfl
@[simp] theorem afterDelay_cont_guard : (s.afterDelay .cont).guard = s.guard := rfl
@[simp] theorem afterDelay_cont_pinOut : (s.afterDelay .cont).pinOut = s.pinOut := rfl
@[simp] theorem afterDelay_cont_code : (s.afterDelay .cont).code = s.code := rfl
@[simp] theorem afterDelay_cont_ckExp : (s.afterDelay .cont).ckExp = s.ckExp := rfl
@[simp] theorem afterDelay_cont_ckCalc : (s.afterDelay .cont).ckCalc = s.ckCalc := rfl
@[simp] theorem afterDelay_cont_hum : (s.afterDelay .cont).hum = s.hum := rfl
@[simp] theorem afterDelay_cont_temp : (s.afterDelay .cont).temp = s.temp := rfl
@[simp] theorem afterDelay_cont_script : (s.afterDelay .cont).script = s.script := rfl
@[simp] theorem afterDelay_cont_tick : (s.afterDelay .cont).tick = s.tick := rfl
@[simp] theorem afterDelay_cont_ret : (s.afterDelay .cont).ret = s.ret := rfl
@[simp] theorem afterDelay_cont_inputs : (s.afterDelay .cont).inputs = s.inputs := rfl

@[simp] theorem afterWait_cont_cfg : (s.afterWait .cont).cfg = s.cfg := rfl
@[simp] theorem afterWait_cont_phase : (s.afterWait .cont).phase = s.phase := rfl
@[simp] theorem afterWait_cont_bitIdx : (s.afterWait .cont).bitIdx = s.bitIdx := rfl
@[simp] theorem afterWait_cont_cnt : (s.afterWait .cont).cnt = s.cnt + 1#8 := rfl
@[simp] theorem afterWait_cont_dly : (s.afterWait .cont).dly = s.dly := rfl
@[simp] theorem afterWait_cont_pulse : (s.afterWait .cont).pulse = s.pulse := rfl
@[simp] theorem afterWait_cont_sr : (s.afterWait .cont).sr = s.sr := rfl
@[simp] theorem afterWait_cont_hTmp : (s.afterWait .cont).hTmp = s.hTmp := rfl
@[simp] theorem afterWait_cont_tTmp : (s.afterWait .cont).tTmp = s.tTmp := rfl
@[simp] theorem afterWait_cont_guard : (s.afterWait .cont).guard = s.guard := rfl
@[simp] theorem afterWait_cont_pinOut : (s.afterWait .cont).pinOut = s.pinOut := rfl
@[simp] theorem afterWait_cont_code : (s.afterWait .cont).code = s.code := rfl
@[simp] theorem afterWait_cont_ckExp : (s.afterWait .cont).ckExp = s.ckExp := rfl
@[simp] theorem afterWait_cont_ckCalc : (s.afterWait .cont).ckCalc = s.ckCalc := rfl
@[simp] theorem afterWait_cont_hum : (s.afterWait .cont).hum = s.hum := rfl
@[simp] theorem afterWait_cont_temp : (s.afterWait .cont).temp = s.temp := rfl
@[simp] theorem afterWait_cont_script : (s.afterWait .cont).script = s.script := rfl
@[simp] theorem afterWait_cont_tick : (s.afterWait .cont).tick = s.tick := rfl
@[simp] theorem afterWait_cont_ret : (s.afterWait .cont).ret = s.ret := rfl
@[simp] theorem afterWait_cont_inputs : (s.afterWait .cont).inputs = s.inputs := rfl

@[simp] theorem afterWait_done_cfg (e : Byte) : (s.afterWait (.done e)).cfg = s.cfg := rfl
@[simp] theorem afterWait_done_phase (e : Byte) : (s.afterWait (.done e)).phase = s.phase := rfl
@[simp] theorem afterWait_done_bitIdx (e : Byte) : (s.afterWait (.done e)).bitIdx = s.bitIdx := rfl
@[simp] theorem afterWait_done_cnt (e : Byte) : (s.afterWait (.done e)).cnt = 0#8 := rfl
@[simp] theorem afterWait_done_dly (e : Byte) : (s.afterWait (.done e)).dly = s.dly := rfl
@[simp] theorem afterWait_done_pulse (e : Byte) : (s.afterWait (.done e)).pulse = s.pulse := rfl
@[simp] theorem afterWait_done_sr (e : Byte) : (s.afterWait (.done e)).sr = s.sr := rfl
@[simp] theorem afterWait_done_hTmp (e : Byte) : (s.afterWait (.done e)).hTmp = s.hTmp := rfl
@[simp] theorem afterWait_done_tTmp (e : Byte) : (s.afterWait (.done e)).tTmp = s.tTmp := rfl
@[simp] theorem afterWait_done_guard (e : Byte) : (s.afterWait (.done e)).guard = s.guard := rfl
@[simp] theorem afterWait_done_pinOut (e : Byte) : (s.afterWait (.done e)).pinOut = s.pinOut := rfl
@[simp] theorem afterWait_done_code (e : Byte) : (s.afterWait (.done e)).code = s.code := rfl
@[simp] theorem afterWait_done_ckExp (e : Byte) : (s.afterWait (.done e)).ckExp = s.ckExp := rfl
@[simp] theorem afterWait_done_ckCalc (e : Byte) : (s.afterWait (.done e)).ckCalc = s.ckCalc := rfl
@[simp] theorem afterWait_done_hum (e : Byte) : (s.afterWait (.done e)).hum = s.hum := rfl
@[simp] theorem afterWait_done_temp (e : Byte) : (s.afterWait (.done e)).temp = s.temp := rfl
@[simp] theorem afterWait_done_script (e : Byte) : (s.afterWait (.done e)).script = s.script := rfl
@[simp] theorem afterWait_done_tick (e : Byte) : (s.afterWait (.done e)).tick = s.tick := rfl
@[simp] theorem afterWait_done_ret (e : Byte) : (s.afterWait (.done e)).ret = s.ret := rfl
@[simp] theorem afterWait_done_inputs (e : Byte) : (s.afterWait (.done e)).inputs = s.inputs := rfl

@[simp] theorem setPulseLow_cfg (i : Nat) (v : Byte) : (s.setPulseLow i v).cfg = s.cfg := rfl
@[simp] theorem setPulseLow_phase (i : Nat) (v : Byte) : (s.setPulseLow i v).phase = s.phase := rfl
@[simp] theorem setPulseLow_bitIdx (i : Nat) (v : Byte) : (s.setPulseLow i v).bitIdx = s.bitIdx := rfl
@[simp] theorem setPulseLow_cnt (i : Nat) (v : Byte) : (s.setPulseLow i v).cnt = s.cnt := rfl
@[simp] theorem setPulseLow_dly (i : Nat) (v : Byte) : (s.setPulseLow i v).dly = s.dly := rfl
@[simp] theorem setPulseLow_pulse (i : Nat) (v : Byte) : (s.setPulseLow i v).pulse = s.pulse.setIfInBounds i ⟨v, (s.pulseAt i).high⟩ := rfl
@[simp] theorem setPulseLow_sr (i : Nat) (v : Byte) : (s.setPulseLow i v).sr = s.sr := rfl
@[simp] theorem setPulseLow_hTmp (i : Nat) (v : Byte) : (s.setPulseLow i v).hTmp = s.hTmp := rfl
@[simp] theorem setPulseLow_tTmp (i : Nat) (v : Byte) : (s.setPulseLow i v).tTmp = s.tTmp := rfl
@[simp] theorem setPulseLow_guard (i : Nat) (v : Byte) : (s.setPulseLow i v).guard = s.guard := rfl
@[simp] theorem setPulseLow_pinOut (i : Nat) (v : Byte) : (s.setPulseLow i v).pinOut = s.pinOut := rfl
@[simp] theorem setPulseLow_code (i : Nat) (v : Byte) : (s.setPulseLow i v).code = s.code := rfl
@[simp] theorem setPulseLow_ckExp (i : Nat) (v : Byte) : (s.setPulseLow i v).ckExp = s.ckExp := rfl
@[simp] theorem setPulseLow_ckCalc (i : Nat) (v : Byte) : (s.setPulseLow i v).ckCalc = s.ckCalc := rfl
@[simp] theorem setPulseLow_hum (i : Nat) (v : Byte) : (s.setPulseLow i v).hum = s.hum := rfl
@[simp] theorem setPulseLow_temp (i : Nat) (v : Byte) : (s.setPulseLow i v).temp = s.temp := rfl
@[simp] theorem setPulseLow_script (i : Nat) (v : Byte) : (s.setPulseLow i v).script = s.script := rfl
@[simp] theorem setPulseLow_tick (i : Nat) (v : Byte) : (s.setPulseLow i v).tick = s.tick := rfl
@[simp] theorem setPulseLow_ret (i : Nat) (v : Byte) : (s.setPulseLow i v).ret = s.ret := rfl
@[simp] theorem setPulseLow_inputs (i : Nat) (v : Byte) : (s.setPulseLow i v).inputs = s.inputs := rfl

@[simp] theorem setPulseHigh_cfg (i : Nat) (v : Byte) : (s.setPulseHigh i v).cfg = s.cfg := rfl
@[simp] theorem setPulseHigh_phase (i : Nat) (v : Byte) : (s.setPulseHigh i v).phase = s.phase := rfl
@[simp] theorem setPulseHigh_bitIdx (i : Nat) (v : Byte) : (s.setPulseHigh i v).bitIdx = s.bitIdx := rfl
@[simp] theorem setPulseHigh_cnt (i : Nat) (v : Byte) : (s.setPulseHigh i v).cnt = s.cnt := rfl
@[simp] theorem setPulseHigh_dly (i : Nat) (v : Byte) : (s.setPulseHigh i v).dly = s.dly := rfl
@[simp] theorem setPulseHigh_pulse (i : Nat) (v : Byte) : (s.setPulseHigh i v).pulse = s.pulse.setIfInBounds i ⟨(s.pulseAt i).low, v⟩ := rfl
@[simp] theorem setPulseHigh_sr (i : Nat) (v : Byte) : (s.setPulseHigh i v).sr = s.sr := rfl
@[simp] theorem setPulseHigh_hTmp (i : Nat) (v : Byte) : (s.setPulseHigh i v).hTmp = s.hTmp := rfl
@[simp] theorem setPulseHigh_tTmp (i : Nat) (v : Byte) : (s.setPulseHigh i v).tTmp = s.tTmp := rfl
@[simp] theorem setPulseHigh_guard (i : Nat) (v : Byte) : (s.setPulseHigh i v).guard = s.guard := rfl
@[simp] theorem setPulseHigh_pinOut (i : Nat) (v : Byte) : (s.setPulseHigh i v).pinOut = s.pinOut := rfl
@[simp] theorem setPulseHigh_code (i : Nat) (v : Byte) : (s.setPulseHigh i v).code = s.code := rfl
@[simp] theorem setPulseHigh_ckExp (i : Nat) (v : Byte) : (s.setPulseHigh i v).ckExp = s.ckExp := rfl
@[simp] theorem setPulseHigh_ckCalc (i : Nat) (v : Byte) : (s.setPulseHigh i v).ckCalc = s.ckCalc := rfl
@[simp] theorem setPulseHigh_hum (i : Nat) (v : Byte) : (s.setPulseHigh i v).hum = s.hum := rfl
@[simp] theorem setPulseHigh_temp (i : Nat) (v : Byte) : (s.setPulseHigh i v).temp = s.temp := rfl
@[simp] theorem setPulseHigh_script (i : Nat) (v : Byte) : (s.setPulseHigh i v).script = s.script := rfl
@[simp] theorem setPulseHigh_tick (i : Nat) (v : Byte) : (s.setPulseHigh i v).tick = s.tick := rfl
@[simp] theorem setPulseHigh_ret (i : Nat) (v : Byte) : (s.setPulseHigh i v).ret = s.ret := rfl
@[simp] theorem setPulseHigh_inputs (i : Nat) (v : Byte) : (s.setPulseHigh i v).inputs = s.inputs := rfl

@[simp] theorem clearedForRead_cfg : s.clearedForRead.cfg = s.cfg := rfl
@[simp] theorem clearedForRead_phase : s.clearedForRead.phase = s.phase := rfl
@[simp] theorem clearedForRead_bitIdx : s.clearedForRead.bitIdx = 0#6 := rfl
@[simp] theorem clearedForRead_cnt : s.clearedForRead.cnt = 0#8 := rfl
@[simp] theorem clearedForRead_dly : s.clearedForRead.dly = s.dly := rfl
@[simp] theorem clearedForRead_pulse : s.clearedForRead.pulse = clearedPulses := rfl
@[simp] theorem clearedForRead_sr : s.clearedForRead.sr = 0#40 := rfl
@[simp] theorem clearedForRead_hTmp : s.clearedForRead.hTmp = 0#16 := rfl
@[simp] theorem clearedForRead_tTmp : s.clearedForRead.tTmp = 0#16 := rfl
@[simp] theorem clearedForRead_guard : s.clearedForRead.guard = s.guard := rfl
@[simp] theorem clearedForRead_pinOut : s.clearedForRead.pinOut = s.pinOut := rfl
@[simp] theorem clearedForRead_code : s.clearedForRead.code = .none := rfl
@[simp] theorem clearedForRead_ckExp : s.clearedForRead.ckExp = 0#8 := rfl
@[simp] theorem clearedForRead_ckCalc : s.clearedForRead.ckCalc = 0#8 := rfl
@[simp] theorem clearedForRead_hum : s.clearedForRead.hum = 0#16 := rfl
@[simp] theorem clearedForRead_temp : s.clearedForRead.temp = 0#16 := rfl
@[simp] theorem clearedForRead_script : s.clearedForRead.script = s.script := rfl
@[simp] theorem clearedForRead_tick : s.clearedForRead.tick = s.tick := rfl
@[simp] theorem clearedForRead_ret : s.clearedForRead.ret = s.ret := rfl
@[simp] theorem clearedForRead_inputs : s.clearedForRead.inputs = s.inputs := rfl

@[simp] theorem resetBlock_cfg : s.resetBlock.cfg = s.cfg := rfl
@[simp] theorem resetBlock_phase : s.resetBlock.phase = .idle := rfl
@[simp] theorem resetBlock_bitIdx : s.resetBlock.bitIdx = 0#6 := rfl
@[simp] theorem resetBlock_cnt : s.resetBlock.cnt = 0#8 := rfl
@[simp] theorem resetBlock_dly : s.resetBlock.dly = 0#15 := rfl
@[simp] theorem resetBlock_pulse : s.resetBlock.pulse = clearedPulses := rfl
@[simp] theorem resetBlock_sr : s.resetBlock.sr = 0#40 := rfl
@[simp] theorem resetBlock_hTmp : s.resetBlock.hTmp = 0#16 := rfl
@[simp] theorem resetBlock_tTmp : s.resetBlock.tTmp = 0#16 := rfl
@[simp] theorem resetBlock_guard : s.resetBlock.guard = false := rfl
@[simp] theorem resetBlock_pinOut : s.resetBlock.pinOut = .high := rfl
@[simp] theorem resetBlock_code : s.resetBlock.code = .none := rfl
@[simp] theorem resetBlock_ckExp : s.resetBlock.ckExp = 0#8 := rfl
@[simp] theorem resetBlock_ckCalc : s.resetBlock.ckCalc = 0#8 := rfl
@[simp] theorem resetBlock_hum : s.resetBlock.hum = 0#16 := rfl
@[simp] theorem resetBlock_temp : s.resetBlock.temp = 0#16 := rfl
@[simp] theorem resetBlock_script : s.resetBlock.script = s.script := rfl
@[simp] theorem resetBlock_tick : s.resetBlock.tick = s.tick := rfl
@[simp] theorem resetBlock_ret : s.resetBlock.ret = s.ret := rfl
@[simp] theorem resetBlock_inputs : s.resetBlock.inputs = s.inputs := rfl

@[simp] theorem passTick_cfg : s.passTick.cfg = s.cfg := rfl
@[simp] theorem passTick_phase : s.passTick.phase = s.phase := rfl
@[simp] theorem passTick_bitIdx : s.passTick.bitIdx = s.bitIdx := rfl
@[simp] theorem passTick_cnt : s.passTick.cnt = s.cnt := rfl
@[simp] theorem passTick_dly : s.passTick.dly = s.dly := rfl
@[simp] theorem passTick_pulse : s.passTick.pulse = s.pulse := rfl
@[simp] theorem passTick_sr : s.passTick.sr = s.sr := rfl
@[simp] theorem passTick_hTmp : s.passTick.hTmp = s.hTmp := rfl
@[simp] theorem passTick_tTmp : s.passTick.tTmp = s.tTmp := rfl
@[simp] theorem passTick_guard : s.passTick.guard = s.guard := rfl
@[simp] theorem passTick_pinOut : s.passTick.pinOut = s.pinOut := rfl
@[simp] theorem passTick_code : s.passTick.code = s.code := rfl
@[simp] theorem passTick_ckExp : s.passTick.ckExp = s.ckExp := rfl
@[simp] theorem passTick_ckCalc : s.passTick.ckCalc = s.ckCalc := rfl
@[simp] theorem passTick_hum : s.passTick.hum = s.hum := rfl
@[simp] theorem passTick_temp : s.passTick.temp = s.temp := rfl
@[simp] theorem passTick_script : s.passTick.script = scriptAfterTick s.script := rfl
@[simp] theorem passTick_tick : s.passTick.tick = s.tick + 1 := rfl
@[simp] theorem passTick_ret : s.passTick.ret = s.ret := rfl

@[simp] theorem placePhase_cfg (p : Phase) (b : Bool) : (s.placePhase p b).cfg = s.cfg := rfl
@[simp] theorem placePhase_phase (p : Phase) (b : Bool) : (s.placePhase p b).phase = p := rfl
@[simp] theorem placePhase_bitIdx (p : Phase) (b : Bool) : (s.placePhase p b).bitIdx = s.bitIdx := rfl
@[simp] theorem placePhase_cnt (p : Phase) (b : Bool) : (s.placePhase p b).cnt = s.cnt := rfl
@[simp] theorem placePhase_dly (p : Phase) (b : Bool) : (s.placePhase p b).dly = s.dly := rfl
@[simp] theorem placePhase_pulse (p : Phase) (b : Bool) : (s.placePhase p b).pulse = s.pulse := rfl
@[simp] theorem placePhase_sr (p : Phase) (b : Bool) : (s.placePhase p b).sr = s.sr := rfl
@[simp] theorem placePhase_hTmp (p : Phase) (b : Bool) : (s.placePhase p b).hTmp = s.hTmp := rfl
@[simp] theorem placePhase_tTmp (p : Phase) (b : Bool) : (s.placePhase p b).tTmp = s.tTmp := rfl
@[simp] theorem placePhase_guard (p : Phase) (b : Bool) : (s.placePhase p b).guard = s.guard := rfl
@[simp] theorem placePhase_pinOut (p : Phase) (b : Bool) : (s.placePhase p b).pinOut = s.pinOut := rfl
@[simp] theorem placePhase_code (p : Phase) (b : Bool) : (s.placePhase p b).code = s.code := rfl
@[simp] theorem placePhase_ckExp (p : Phase) (b : Bool) : (s.placePhase p b).ckExp = s.ckExp := rfl
@[simp] theorem placePhase_ckCalc (p : Phase) (b : Bool) : (s.placePhase p b).ckCalc = s.ckCalc := rfl
@[simp] theorem placePhase_hum (p : Phase) (b : Bool) : (s.placePhase p b).hum = s.hum := rfl
@[simp] theorem placePhase_temp (p : Phase) (b : Bool) : (s.placePhase p b).temp = s.temp := rfl
@[simp] theorem placePhase_script (p : Phase) (b : Bool) : (s.placePhase p b).script = placeTick b s.script := rfl
@[simp] theorem placePhase_tick (p : Phase) (b : Bool) : (s.placePhase p b).tick = s.tick := rfl
@[simp] theorem placePhase_ret (p : Phase) (b : Bool) : (s.placePhase p b).ret = s.ret := rfl

@[simp] theorem advance_cfg : s.advance.cfg = s.cfg := by unfold State.advance; split <;> rfl
@[simp] theorem advance_phase : s.advance.phase = s.phase := by unfold State.advance; split <;> rfl
@[simp] theorem advance_bitIdx : s.advance.bitIdx = s.bitIdx := by unfold State.advance; split <;> rfl
@[simp] theorem advance_cnt : s.advance.cnt = s.cnt := by unfold State.advance; split <;> rfl
@[simp] theorem advance_dly : s.advance.dly = s.dly := by unfold State.advance; split <;> rfl
@[simp] theorem advance_pulse : s.advance.pulse = s.pulse := by unfold State.advance; split <;> rfl
@[simp] theorem advance_sr : s.advance.sr = s.sr := by unfold State.advance; split <;> rfl
@[simp] theorem advance_hTmp : s.advance.hTmp = s.hTmp := by unfold State.advance; split <;> rfl
@[simp] theorem advance_tTmp : s.advance.tTmp = s.tTmp := by unfold State.advance; split <;> rfl
@[simp] theorem advance_guard : s.advance.guard = s.guard := by unfold State.advance; split <;> rfl
@[simp] theorem advance_pinOut : s.advance.pinOut = s.pinOut := by unfold State.advance; split <;> rfl
@[simp] theorem advance_code : s.advance.code = s.code := by unfold State.advance; split <;> rfl
@[simp] theorem advance_ckExp : s.advance.ckExp = s.ckExp := by unfold State.advance; split <;> rfl
@[simp] theorem advance_ckCalc : s.advance.ckCalc = s.ckCalc := by unfold State.advance; split <;> rfl
@[simp] theorem advance_hum : s.advance.hum = s.hum := by unfold State.advance; split <;> rfl
@[simp] theorem advance_temp : s.advance.temp = s.temp := by unfold State.advance; split <;> rfl
@[simp] theorem advance_ret : s.advance.ret = s.ret := by unfold State.advance; split <;> rfl

/-- The inputs of a tick that stands next in the script are its own. -/
theorem inputs_of_tick {s : State} {i : Inputs} {rest : List Event} (h : s.script = .tick i :: rest) :
    s.inputs = i := by simp [State.inputs, h, scriptedInputs]

/-- With nothing scripted the inputs are the free value. -/
theorem inputs_of_nil {s : State} (h : s.script = []) : s.inputs = Config.freeInputs s.tick := by
  simp [State.inputs, h, scriptedInputs]

theorem advance_of_tick {s : State} {i : Inputs} {rest : List Event} (h : s.script = .tick i :: rest) :
    s.advance = { s with script := rest, tick := s.tick + 1 } := by simp [State.advance, h]

theorem advance_of_nil {s : State} (h : s.script = []) : s.advance = { s with tick := s.tick + 1 } := by
  simp [State.advance, h]

theorem advance_of_hostRead {s : State} {r : BitVec 3} {rest : List Event}
    (h : s.script = .hostRead r :: rest) : s.advance = { s with script := rest } := by
  simp [State.advance, h]

/-- A pulse-buffer entry just written reads back, and every other entry reads as before. -/
theorem pulseAt_setPulseLow (i j : Nat) (v : Byte) (hi : i < 40) :
    (s.setPulseLow i v).pulseAt j = if j = i then ⟨v, (s.pulseAt i).high⟩ else s.pulseAt j := by
  by_cases h : j = i
  · subst h; simp [State.pulseAt, hi]
  · have h' : i ≠ j := fun e => h e.symm
    simp [State.pulseAt, h, h']

theorem pulseAt_setPulseHigh (i j : Nat) (v : Byte) (hi : i < 40) :
    (s.setPulseHigh i v).pulseAt j = if j = i then ⟨(s.pulseAt i).low, v⟩ else s.pulseAt j := by
  by_cases h : j = i
  · subst h; simp [State.pulseAt, hi]
  · have h' : i ≠ j := fun e => h e.symm
    simp [State.pulseAt, h, h']

end Sys2Proof.Machine
end

