-- ==== Sys2Proof/Laws/Ops.lean ====
section
/-! SUPPORT. One lemma per shared operation that says everything it can do; later proofs cite these instead of
unfolding the operation. -/

namespace Sys2Proof.Machine

/-- WAIT_STEP's result, the three tests in their order (40_pulse_timer.md R124). -/
theorem waitResult_eq (target : Level) (s : State) : waitResult target s =
    if s.inputs.pinFault = true then .fault
    else if s.inputs.pinIn = target then .done s.cnt
    else if s.cnt = 255#8 then .expired else .cont := by
  unfold waitResult pinRead timeoutTicks
  cases s.inputs.pinFault <;> rfl

/-- A waiting phase's step, outcome by outcome (42_sequencer.md R155). -/
theorem waitPhase_eq (target : Level) (e : ErrorKind) (onDone : Byte → State → State) (s : State) :
    waitPhase target e onDone s =
      if s.inputs.pinFault = true then s.abortWith .pinFault
      else if s.inputs.pinIn = target then onDone s.cnt { s with cnt := 0#8 }
      else if s.cnt = 255#8 then s.abortWith e else { s with cnt := s.cnt + 1#8 } := by
  unfold waitPhase
  rw [waitResult_eq]
  split_ifs <;> rfl

/-- The accept step, with and without a failed set (R150). -/
theorem acceptRead_eq (s : State) : acceptRead s =
    if s.inputs.pinFault = true then
      { s.clearedForRead.disableGuard.drivePin .low with dly := 0#15 }.abortWith .pinFault
    else { s.clearedForRead.disableGuard.drivePin .low with
      dly := holdPreload s.cfg.tStartLow, phase := .startLow } := by
  unfold acceptRead pinSetResult
  cases s.inputs.pinFault <;> rfl

/-- START_LOW's step: hold, failed release, release (R153). -/
theorem execStartLow_eq (s : State) : execStartLow s = .next (
    if s.dly = 0#15 then
      if s.inputs.pinFault = true then (s.drivePin .high).abortWith .pinFault
      else { s.drivePin .high with dly := holdPreload s.cfg.tStartHigh, phase := .startHigh }
    else { s with dly := s.dly - 1#15 }) := by
  unfold execStartLow delayResult pinSetResult
  by_cases h : s.dly = 0#15 <;> cases hf : s.inputs.pinFault <;> (simp [h]; try rfl)

/-- START_HIGH's step: hold, or enter ACK_FALL (R154). -/
theorem execStartHigh_eq (s : State) : execStartHigh s = .next (
    if s.dly = 0#15 then { s with cnt := 0#8, phase := .ackFall } else { s with dly := s.dly - 1#15 }) := by
  unfold execStartHigh delayResult
  by_cases h : s.dly = 0#15 <;> (simp [h]; try rfl)

/-- RANGE's step: reject or pass (44_variant_decoders.md R196). -/
theorem execRange_eq (s : State) : execRange s = .next (
    if 1000 < s.hTmp.toNat then s.abortWith .invalidData else { s with phase := .success }) := rfl

/-- Every operation completes: there is no fault and no refusal (log 19). -/
theorem exec_answers_next (i : Instr) (s : State) : ∃ t, exec i s = .next t := by
  cases i <;> exact ⟨_, rfl⟩

/-- A waiting phase leaves the script, the tick number and the constants alone when its Done action does. -/
theorem waitPhase_keeps_environment (target : Level) (e : ErrorKind) (onDone : Byte → State → State) (s : State)
    (hf : ∀ b t, (onDone b t).script = t.script ∧ (onDone b t).tick = t.tick ∧ (onDone b t).cfg = t.cfg) :
    (waitPhase target e onDone s).script = s.script ∧ (waitPhase target e onDone s).tick = s.tick ∧
      (waitPhase target e onDone s).cfg = s.cfg := by
  rw [waitPhase_eq]
  split_ifs
  · exact ⟨rfl, rfl, rfl⟩
  · exact hf s.cnt { s with cnt := 0#8 }
  · exact ⟨rfl, rfl, rfl⟩
  · exact ⟨rfl, rfl, rfl⟩

/-- No operation writes the script, the tick number or the instance's constants (20_memory.md R74). -/
theorem exec_keeps_environment {i : Instr} {s u : State} (h : exec i s = .next u) :
    u.script = s.script ∧ u.tick = s.tick ∧ u.cfg = s.cfg := by
  cases i
  case read => cases h; rw [acceptRead_eq]; split_ifs <;> exact ⟨rfl, rfl, rfl⟩
  case startLow => simp only [exec, execStartLow_eq] at h; cases h; split_ifs <;> exact ⟨rfl, rfl, rfl⟩
  case startHigh => simp only [exec, execStartHigh_eq] at h; cases h; split_ifs <;> exact ⟨rfl, rfl, rfl⟩
  case ackFall => cases h; exact waitPhase_keeps_environment _ _ _ s fun _ _ => ⟨rfl, rfl, rfl⟩
  case ackRise => cases h; exact waitPhase_keeps_environment _ _ _ s fun _ _ => ⟨rfl, rfl, rfl⟩
  case ackEnd => cases h; exact waitPhase_keeps_environment _ _ _ s fun _ _ => ⟨rfl, rfl, rfl⟩
  case bitLow => cases h; exact waitPhase_keeps_environment _ _ _ s fun _ _ => ⟨rfl, rfl, rfl⟩
  case bitHigh =>
    cases h
    refine waitPhase_keeps_environment _ _ _ s fun b t => ?_
    unfold nextPair
    split_ifs <;> exact ⟨rfl, rfl, rfl⟩
  case check => simp only [exec, execCheck] at h; cases h; split_ifs <;> exact ⟨rfl, rfl, rfl⟩
  case range => simp only [exec, execRange_eq] at h; cases h; split_ifs <;> exact ⟨rfl, rfl, rfl⟩
  case cmdRead =>
    simp only [exec, execCmdRead, acceptRead_eq] at h
    cases h
    split_ifs <;> exact ⟨rfl, rfl, rfl⟩
  case waitStep t =>
    simp only [exec, execWaitStep, waitResult_eq] at h
    cases h
    split_ifs <;> exact ⟨rfl, rfl, rfl⟩
  case delayStep =>
    simp only [exec, execDelayStep, delayResult] at h
    cases h
    split_ifs <;> exact ⟨rfl, rfl, rfl⟩
  all_goals (cases h; exact ⟨rfl, rfl, rfl⟩)

/-- A scripted tick's step is `exec` of the operation PHASE selects, and then the tick has passed. -/
theorem step_of_tick {s u : State} {inp : Inputs} {rest : List Event} (h : s.script = .tick inp :: rest)
    (hr : inp.rst = false) (hu : exec (phaseInstr s.phase inp.start s.cfg.variant) s = .next u) :
    step s = .next { u with script := rest, tick := s.tick + 1 } := by
  have hi := inputs_of_tick h
  obtain ⟨a, b, -⟩ := exec_keeps_environment hu
  simp only [step, fetch, h, fetchTick, hi, hr, Bool.false_eq_true, if_false, hu]
  rw [advance_of_tick (a.trans h), b]

/-- What a step can be: a reset, a host read of a register without an accessor, or one operation. -/
theorem step_cases {s t : State} (h : step s = .next t) :
    (fetch s = .reset ∧ t = s.resetBlock.advance) ∨
    (∃ r, fetch s = .register r ∧ t = (s.deliver (.register (readRegister r s))).advance) ∨
    (∃ i u, fetch s = .operation i ∧ exec i s = .next u ∧ t = u.advance) := by
  unfold step at h
  split at h
  · next hf => exact .inl ⟨hf, by simpa using h.symm⟩
  · next r hf => exact .inr (.inl ⟨r, hf, by simpa using h.symm⟩)
  · next i hf =>
    obtain ⟨u, hu⟩ := exec_answers_next i s
    refine .inr (.inr ⟨i, u, hf, hu, ?_⟩)
    simpa [hu] using h.symm

/-- An operation a step runs is the sequencer's or a host accessor's. -/
theorem fetch_operation_cases {s : State} {i : Instr} (h : fetch s = .operation i) :
    (i = phaseInstr s.phase s.inputs.start s.cfg.variant ∧ s.inputs.rst = false) ∨
    i = .humidity ∨ i = .temperature ∨ i = .fahrenheit := by
  have tick : fetchTick s = .operation i →
      i = phaseInstr s.phase s.inputs.start s.cfg.variant ∧ s.inputs.rst = false := by
    intro h
    unfold fetchTick at h
    split at h
    · cases h
    · next hr => exact ⟨by injection h with h; exact h.symm, by simpa using hr⟩
  unfold fetch at h
  split at h
  · next r _ _ =>
    right
    revert h r
    intro r _ h
    unfold fetchHostRead at h
    split at h
    · next j hj =>
      injection h with h
      subst h
      simp only [decode] at hj
      split at hj <;> simp_all
    · cases h
  · exact .inl (tick h)
  · exact .inl (tick h)

/-- A turn of DECIDE's loop, bit by bit (43_frame_checksum.md R180). -/
theorem getLsbD_shiftIn (v : Frame) (b : BitVec 1) (i : Nat) (hi : i < 40) :
    (shiftIn v b).getLsbD i = if i = 0 then b.getLsbD 0 else v.getLsbD (i - 1) := by
  unfold shiftIn
  by_cases h : i = 0
  · subst h; simp
  · have : ¬ i < 1 := by omega
    have hb : b.getLsbD i = false := BitVec.getLsbD_of_ge b i (by omega)
    simp [h, this, hb, hi]
    exact (BitVec.getLsbD_eq_getElem (by omega)).symm

/-- The decided bit as a truth value (30_encoding.md R91). -/
theorem decidedBit_getLsbD (p : Pulse) : (decidedBit p).getLsbD 0 = decide (p.low < p.high) := by
  unfold decidedBit
  by_cases h : p.low < p.high <;> simp [h]

/-- What a hold loads, as a number (40_pulse_timer.md R126). -/
theorem holdPreload_toNat (t : HoldTicks) : (holdPreload t).toNat = t.ticks - 1 := by
  have h := t.legal
  simp only [holdPreload, BitVec.toNat_ofNat]
  omega

@[simp] theorem runFor_zero (s : State) : runFor 0 s = .next s := rfl

/-- A run goes on from its first step. -/
theorem runFor_succ {s u : State} (k : Nat) (h : step s = .next u) : runFor (k + 1) s = runFor k u := by
  have h' : core.step s = .next u := h
  unfold runFor
  simp only [Host.Core.run, h']
  rfl

/-- Runs compose. -/
theorem runFor_add {s u : State} (j k : Nat) (h : runFor j s = .next u) : runFor (j + k) s = runFor k u := by
  induction j generalizing s with
  | zero =>
    cases h
    rw [Nat.zero_add]
  | succ j ih =>
    obtain ⟨v, hv⟩ : ∃ v, step s = .next v := by
      obtain h' | h' | ⟨i, hi⟩ : fetch s = .reset ∨ (∃ r, fetch s = .register r) ∨ ∃ i, fetch s = .operation i := by
        cases fetch s <;> simp
      · exact ⟨_, by unfold step; rw [h']⟩
      · obtain ⟨r, hr⟩ := h'
        exact ⟨_, by unfold step; rw [hr]⟩
      · obtain ⟨w, hw⟩ := exec_answers_next i s
        exact ⟨w.advance, by unfold step; rw [hi]; simp only [hw]⟩
    rw [runFor_succ j hv] at h
    rw [show j + 1 + k = (j + k) + 1 by omega, runFor_succ (j + k) hv]
    exact ih h

end Sys2Proof.Machine
end

