-- ==== Sys2Proof/Laws/PerInstr.lean ====
section
/-! SUPPORT. The round trip of the encodings, one lemma per operation. -/

/-- Decoding a well-formed operation's word gives the operation back, with every field. -/
def Sys2Proof.Laws.RoundTrip.Statement (i : Sys2Proof.Instr) : Prop :=
  i.wellFormed = true → Sys2Proof.decode (Sys2Proof.encode i) = .ok i

namespace Sys2Proof.Laws.RoundTrip

open Sys2Proof

theorem read : Statement .read := fun _ => rfl
theorem idle : Statement .idle := fun _ => rfl
theorem startLow : Statement .startLow := fun _ => rfl
theorem startHigh : Statement .startHigh := fun _ => rfl
theorem ackFall : Statement .ackFall := fun _ => rfl
theorem ackRise : Statement .ackRise := fun _ => rfl
theorem ackEnd : Statement .ackEnd := fun _ => rfl
theorem bitLow : Statement .bitLow := fun _ => rfl
theorem bitHigh : Statement .bitHigh := fun _ => rfl
theorem decideBits : Statement .decideBits := fun _ => rfl
theorem check : Statement .check := fun _ => rfl
theorem interpInt : Statement .interpInt := fun _ => rfl
theorem interpFix : Statement .interpFix := fun _ => rfl
theorem range : Statement .range := fun _ => rfl
theorem success : Statement .success := fun _ => rfl
theorem pinNone : Statement .pinNone := fun _ => rfl
theorem pinRead : Statement .pinRead := fun _ => rfl
theorem pinSetLow : Statement .pinSetLow := fun _ => rfl
theorem pinSetHigh : Statement .pinSetHigh := fun _ => rfl
theorem guardEnable : Statement .guardEnable := fun _ => rfl
theorem guardDisable : Statement .guardDisable := fun _ => rfl
theorem cmdNone : Statement .cmdNone := fun _ => rfl
theorem cmdRead : Statement .cmdRead := fun _ => rfl

/-- The five byte fields of an INT frame are where R94 puts them. -/
theorem frameInt (h x t y c : Byte) : Statement (.frameInt h x t y c) := by
  intro _
  have e : decode (encode (.frameInt h x t y c)) = .ok (decodeFrameInt (h ++ x ++ t ++ y ++ c)) := rfl
  rw [e, decodeFrameInt]
  congr 2 <;> ext i hi <;> rw [BitVec.getElem_extractLsb', getLsbD_frameInt] <;>
    split_ifs <;> first | omega | simp [hi]

/-- The four fields of a FIX frame are where R95 puts them. -/
theorem frameFix (h : BitVec 16) (s : BitVec 1) (m : BitVec 15) (c : Byte) :
    Statement (.frameFix h s m c) := by
  intro _
  have e : decode (encode (.frameFix h s m c)) = .ok (decodeFrameFix (h ++ s ++ m ++ c)) := rfl
  rw [e, decodeFrameFix]
  congr 2 <;> ext i hi <;> rw [BitVec.getElem_extractLsb', getLsbD_frameFix] <;>
    split_ifs <;> first | omega | simp [hi]

theorem sym0 (low high : Byte) : Statement (.sym0 low high) := by
  intro h
  have : ¬ low < high := by simpa [Instr.wellFormed] using h
  simp [encode, decode, this]

theorem sym1 (low high : Byte) : Statement (.sym1 low high) := by
  intro h
  have : low < high := by simpa [Instr.wellFormed] using h
  simp [encode, decode, this]

theorem waitStep (target : Level) : Statement (.waitStep target) := fun _ => by simp [encode, decode]
theorem delayStep : Statement .delayStep := fun _ => rfl
theorem abort (code : ErrorKind) : Statement (.abort code) := fun _ => by simp [encode, decode]
theorem humidity : Statement .humidity := fun _ => rfl
theorem temperature : Statement .temperature := fun _ => rfl
theorem fahrenheit : Statement .fahrenheit := fun _ => rfl

end Sys2Proof.Laws.RoundTrip
end

