-- ==== Sys2Proof/Tests/Slice0.lean ====
section
/-! SUPPORT. Tests of the model, each one step on a small state, with expected values from spec/95_test_vectors.md (named V-..., P<n>,
S<n>), and for each statement with hypotheses a witness that meets them. -/

namespace Sys2Proof.Tests

open Sys2Proof Sys2Proof.Machine

/-! ## Small states -/

/-- The default instance with the given VARIANT and GUARD_IMPL. -/
def config (v : Variant) (g : GuardImpl) : Config := { Config.default with variant := v, guardImpl := g }

/-- The shortest legal holds. -/
def shortConfig (g : GuardImpl) : Config := ⟨.fix, g, ⟨1, by decide⟩, ⟨1, by decide⟩⟩

/-- The inputs of a tick with the given level and nothing asserted. -/
def line (l : Level) : Inputs := ⟨false, false, l, false⟩

/-- A tick at which `start` is 1. -/
def starting : Inputs := ⟨false, true, .high, false⟩

/-- A tick at which the pin faults. -/
def faulting (l : Level) : Inputs := ⟨false, false, l, true⟩

/-- A tick at which `rst` is asserted. -/
def resetting : Inputs := ⟨true, true, .low, true⟩

/-- The reset state of an instance, moved to a phase, with one tick of inputs scripted; the guard as R52 wants it. -/
def inPhase (g : GuardImpl) (p : Phase) (i : Inputs) : State :=
  { State.reset with
    cfg := config .fix g, phase := p, script := [.tick i]
    guard := decide (g = .real) && between .startLow .bitHigh p
    pinOut := if p = .startLow then .low else .high }

/-- The state after a capture that produced the given frame. -/
def captured (v : Variant) (p : Phase) (f : Frame) : State :=
  { State.reset with
    cfg := config v .noop, phase := p, script := [.tick (line .low)], bitIdx := 39#6, sr := f
    pulse := Vector.ofFn fun i => if f.getLsbD (39 - i) then ⟨49#8, 69#8⟩ else ⟨49#8, 26#8⟩ }

/-- What a step leaves to be seen. -/
def seen {α : Type} (o : Host.Outcome State Fault Refusal) (f : State → α) : Option α :=
  match o with
  | .next t => some (f t)
  | .fault _ => none
  | .refused _ => none

/-- STATUS after a step. -/
def status (o : Host.Outcome State Fault Refusal) : Option HostWord := seen o (readRegister 0#3)

/-! ## WellFormed refuses -/

/-- (254, 255) decides to 1, so it is no SYM.0 (R92). -/
theorem test_sym0_refuses_a_longer_high : (Instr.sym0 254#8 255#8).wellFormed = false := by decide

/-- Equal counts give 0, so they are no SYM.1 (R92). -/
theorem test_sym1_refuses_equal_counts : (Instr.sym1 255#8 255#8).wellFormed = false := by decide

/-- A bound that the comparison, if it were signed, would get wrong: (255, 0) is a SYM.0 (R92). -/
theorem test_sym_compares_unsigned :
    (Instr.sym0 255#8 0#8).wellFormed = true ∧ (Instr.sym1 255#8 0#8).wellFormed = false := by decide

/-! ## Decoding: words written out from the tables -/

theorem test_decode_idle : decode (.phase4 0b0000#4 0b0#1 0b0#1) = .ok .idle := by rfl
theorem test_decode_read : decode (.phase4 0b0000#4 0b1#1 0b0#1) = .ok .read := by rfl
theorem test_decode_startLow : decode (.phase4 0b0001#4 0b1#1 0b0#1) = .ok .startLow := by rfl
theorem test_decode_startHigh : decode (.phase4 0b0010#4 0b0#1 0b1#1) = .ok .startHigh := by rfl
theorem test_decode_ackFall : decode (.phase4 0b0011#4 0b0#1 0b0#1) = .ok .ackFall := by rfl
theorem test_decode_ackRise : decode (.phase4 0b0100#4 0b0#1 0b0#1) = .ok .ackRise := by rfl
theorem test_decode_ackEnd : decode (.phase4 0b0101#4 0b0#1 0b0#1) = .ok .ackEnd := by rfl
theorem test_decode_bitLow : decode (.phase4 0b0110#4 0b0#1 0b0#1) = .ok .bitLow := by rfl
theorem test_decode_bitHigh : decode (.phase4 0b0111#4 0b0#1 0b0#1) = .ok .bitHigh := by rfl
theorem test_decode_decide : decode (.phase4 0b1000#4 0b0#1 0b0#1) = .ok .decideBits := by rfl
theorem test_decode_check : decode (.phase4 0b1001#4 0b0#1 0b0#1) = .ok .check := by rfl
theorem test_decode_interp_int : decode (.phase4 0b1010#4 0b1#1 0b0#1) = .ok .interpInt := by rfl
theorem test_decode_interp_fix : decode (.phase4 0b1010#4 0b0#1 0b1#1) = .ok .interpFix := by rfl
theorem test_decode_range : decode (.phase4 0b1011#4 0b0#1 0b0#1) = .ok .range := by rfl
theorem test_decode_success : decode (.phase4 0b1100#4 0b0#1 0b0#1) = .ok .success := by rfl

/-- R101: the three reserved codes. -/
theorem test_decode_reserved_phases :
    decode (.phase4 0b1101#4 0b0#1 0b0#1) = .error (.reservedPhase 0b1101#4) ∧
    decode (.phase4 0b1110#4 0b0#1 0b0#1) = .error (.reservedPhase 0b1110#4) ∧
    decode (.phase4 0b1111#4 0b0#1 0b0#1) = .error (.reservedPhase 0b1111#4) := ⟨rfl, rfl, rfl⟩

theorem test_decode_pin_ops :
    decode (.pinOp2 0b00#2) = .ok .pinNone ∧ decode (.pinOp2 0b01#2) = .ok .pinRead ∧
    decode (.pinOp2 0b10#2) = .ok .pinSetLow ∧ decode (.pinOp2 0b11#2) = .ok .pinSetHigh :=
  ⟨rfl, rfl, rfl, rfl⟩

theorem test_decode_guard_and_command :
    decode (.guard1 0b0#1) = .ok .guardEnable ∧ decode (.guard1 0b1#1) = .ok .guardDisable ∧
    decode (.cmd1 0b0#1) = .ok .cmdNone ∧ decode (.cmd1 0b1#1) = .ok .cmdRead := ⟨rfl, rfl, rfl, rfl⟩

/-- R102: the five error kinds; NONE, OK and 111 are no operand of ABORT. -/
theorem test_decode_abort :
    decode (.abortPrim 0b010#3) = .ok (.abort .notPresent) ∧
    decode (.abortPrim 0b011#3) = .ok (.abort .checksumMismatch) ∧
    decode (.abortPrim 0b100#3) = .ok (.abort .invalidData) ∧
    decode (.abortPrim 0b101#3) = .ok (.abort .timeout) ∧
    decode (.abortPrim 0b110#3) = .ok (.abort .pinFault) ∧
    decode (.abortPrim 0b001#3) = .error (.notAnErrorCode 0b001#3) ∧
    decode (.abortPrim 0b111#3) = .error (.notAnErrorCode 0b111#3) :=
  ⟨rfl, rfl, rfl, rfl, rfl, rfl, rfl⟩

theorem test_decode_primitives :
    decode (.waitPrim 0b0#1) = .ok (.waitStep .low) ∧ decode (.waitPrim 0b1#1) = .ok (.waitStep .high) ∧
    decode .delayPrim = .ok .delayStep := ⟨rfl, rfl, rfl⟩

theorem test_decode_accessors :
    decode (.accessor 3#3) = .ok .humidity ∧ decode (.accessor 4#3) = .ok .temperature ∧
    decode (.accessor 5#3) = .ok .fahrenheit ∧ decode (.accessor 0#3) = .error (.notAnAccessor 0#3) :=
  ⟨rfl, rfl, rfl, rfl⟩

/-- R92's corners. -/
theorem test_decode_symbols :
    decode (.symbol 254#8 255#8) = .ok (.sym1 254#8 255#8) ∧
    decode (.symbol 255#8 255#8) = .ok (.sym0 255#8 255#8) := by decide

/-- P1's 40 bits in the INT layout. -/
theorem test_decode_frame_int :
    decode (.frame40 0#1 0b0011110000000000000110010000000001010101#40) =
      .ok (.frameInt 60#8 0#8 25#8 0#8 85#8) := by rfl

/-- P7's 40 bits in the FIX layout. -/
theorem test_decode_frame_fix :
    decode (.frame40 1#1 0b0000000110010000100001010000101000100000#40) =
      .ok (.frameFix 400#16 1#1 1290#15 0x20#8) := by rfl

/-- The host's numbering: the code in bits 3:0, and a frame's five bytes as one number (log 14). -/
theorem test_decodeTableWord :
    decodeTableWord 8 0x9 = some .check ∧ decodeTableWord 8 0xD = none ∧
    decodeTableWord 40 0x3C00190055 = some (.frameInt 60#8 0#8 25#8 0#8 85#8) := ⟨rfl, rfl, rfl⟩

/-- A placed word is what the next step runs: from reset, the word of RANGE moves on to SUCCESS. -/
theorem test_withFetchWord_runs_the_word :
    seen (step (State.reset.withFetchWord 8 0xB)) (·.phase) = some .success := by rfl

/-! ## The sequencer -/

/-- V-READ, rows 1 and 2. -/
theorem test_read_accepts :
    status (exec .read (inPhase .real .idle starting)) = some 0x00000148#32 ∧
    status (exec .read (inPhase .noop .idle starting)) = some 0x00000108#32 ∧
    seen (exec .read (inPhase .real .idle starting)) (·.dly) = some 17999#15 := ⟨rfl, rfl, rfl⟩

/-- V-READ, row 3: a failed PIN_SET_LOW leaves the line low. -/
theorem test_read_pin_fault :
    status (exec .read (inPhase .real .idle (faulting .high))) = some 0x00000016#32 ∧
    seen (exec .read (inPhase .real .idle (faulting .high))) (·.dly) = some 0#15 := ⟨rfl, rfl⟩

/-- V-READ, row 5. -/
theorem test_idle_keeps_the_reading :
    seen (exec .idle { inPhase .real .idle (faulting .low) with code := .ok, hum := 652#16, temp := 261#16 })
      (fun t => (t.code, t.hum, t.temp)) = some (.ok, 652#16, 261#16) := by rfl

/-- V-HOLD: the release. -/
theorem test_startLow_releases :
    status (exec .startLow (inPhase .real .startLow (line .low))) = some 0x000002C8#32 ∧
    seen (exec .startLow (inPhase .real .startLow (line .low))) (·.dly) = some 39#15 := ⟨rfl, rfl⟩

/-- V-HOLD: a fault at the release, and a fault ignored before it. -/
theorem test_startLow_pin_fault :
    status (exec .startLow (inPhase .real .startLow (faulting .low))) = some 0x00000096#32 ∧
    seen (exec .startLow { inPhase .real .startLow (faulting .low) with dly := 17999#15 })
      (fun t => (t.dly, t.phase)) = some (17998#15, .startLow) := ⟨rfl, rfl⟩

/-- V-HOLD: tick 18040. -/
theorem test_startHigh_enters_ack_fall :
    status (exec .startHigh { inPhase .real .startHigh (faulting .low) with cnt := 9#8 }) = some 0x000003C8#32 ∧
    seen (exec .startHigh { inPhase .real .startHigh (faulting .low) with cnt := 9#8 }) (·.cnt) = some 0#8 :=
  ⟨rfl, rfl⟩

/-- P11, tick 4. -/
theorem test_startHigh_holds :
    status (exec .startHigh { inPhase .real .startHigh (line .low) with dly := 1#15 }) = some 0x000002C8#32 := by
  rfl

/-- V-ACK and V-END: no sensor. -/
theorem test_ackFall_expires :
    status (exec .ackFall { inPhase .real .ackFall (line .high) with cnt := 255#8 }) = some 0x00000092#32 ∧
    seen (exec .ackFall { inPhase .real .ackFall (line .high) with cnt := 255#8 }) (·.cnt) = some 255#8 :=
  ⟨rfl, rfl⟩

/-- V-ACK, fourth row: the level at the 256th sample still counts. -/
theorem test_ackFall_done_at_255 :
    status (exec .ackFall { inPhase .real .ackFall (line .low) with cnt := 255#8 }) = some 0x000004C8#32 := by rfl

/-- P11, tick 9. -/
theorem test_ackRise_done :
    status (exec .ackRise { inPhase .real .ackRise (line .high) with cnt := 2#8 }) = some 0x000005C8#32 := by rfl

/-- P11, tick 12. -/
theorem test_ackEnd_done :
    status (exec .ackEnd { inPhase .real .ackEnd (line .low) with cnt := 2#8 }) = some 0x000006C8#32 := by rfl

/-- P4: TIMEOUT in pair 17. -/
theorem test_bitLow_expires :
    status (exec .bitLow { inPhase .real .bitLow (line .low) with cnt := 255#8, bitIdx := 17#6 }) =
      some 0x00110095#32 := by rfl

/-- The low part of a `Z`. -/
theorem test_bitLow_stores_the_low_count :
    seen (exec .bitLow { inPhase .real .bitLow (line .high) with cnt := 49#8, bitIdx := 9#6 })
      (fun t => (t.pulseAt 9, t.pulseAt 8, t.phase)) = some (⟨49#8, 0#8⟩, ⟨0#8, 0#8⟩, .bitHigh) := by rfl

/-- P11, tick 15: the next pair. -/
theorem test_bitHigh_moves_to_the_next_pair :
    status (exec .bitHigh (inPhase .real .bitHigh (line .low))) = some 0x000106C8#32 := by rfl

/-- P11, tick 136: the end of capture, the guard released. -/
theorem test_bitHigh_ends_the_capture :
    status (exec .bitHigh { inPhase .real .bitHigh (line .low) with cnt := 2#8, bitIdx := 39#6 }) =
      some 0x00270888#32 ∧
    seen (exec .bitHigh { inPhase .real .bitHigh (line .low) with cnt := 2#8, bitIdx := 39#6 })
      (·.pulseAt 39) = some ⟨0#8, 2#8⟩ := ⟨rfl, rfl⟩

/-- V-END, and P8 (c): a pin fault in pair 1. -/
theorem test_abort :
    status (exec (.abort .timeout) { inPhase .real .bitLow (line .low) with bitIdx := 17#6 }) =
      some 0x00110095#32 ∧
    status (exec (.abort .pinFault) { inPhase .real .bitLow (line .low) with bitIdx := 1#6 }) =
      some 0x00010096#32 := ⟨rfl, rfl⟩

/-- V-READ, last row; `start` in IDLE is READ. -/
theorem test_cmdRead :
    status (exec .cmdRead (inPhase .real .bitLow starting)) = some 0x000006C8#32 ∧
    status (exec .cmdRead (inPhase .real .idle starting)) = some 0x00000148#32 := ⟨rfl, rfl⟩

/-- V-READ, row 4. -/
theorem test_cmdNone : status (exec .cmdNone (inPhase .noop .idle (faulting .low))) = some 0x00000080#32 := by rfl

/-! ## The pin, the Pulse Timer, the delay, the guard -/

/-- V-PIN, rows 2 and 4. -/
theorem test_pinRead :
    seen (exec .pinRead (inPhase .noop .ackFall (line .high))) (·.ret) = some (.pinRead (.ok .high)) ∧
    seen (exec .pinRead (inPhase .noop .ackFall (faulting .high))) (·.ret) = some (.pinRead .fault) :=
  ⟨rfl, rfl⟩

/-- V-PIN, row 6. -/
theorem test_pinSetLow :
    seen (exec .pinSetLow (inPhase .noop .idle (faulting .high))) (fun t => (t.pinOut, t.ret)) =
      some (.low, .pinSet .fault) := by rfl

/-- V-PIN, row 7. -/
theorem test_pinSetHigh :
    seen (exec .pinSetHigh (inPhase .noop .startLow (line .high))) (fun t => (t.pinOut, t.ret)) =
      some (.high, .pinSet .ok) := by rfl

/-- P11, tick 1: no pin operation while the hold runs. -/
theorem test_pinNone :
    ({ inPhase .real .startLow (faulting .low) with dly := 2#15 } : State).pinOp = 0#2 ∧
    seen (exec .pinNone { inPhase .real .startLow (faulting .low) with dly := 2#15 })
      (fun t => (t.pinOut, t.dly, t.code)) = some (.low, 2#15, .none) := ⟨rfl, rfl⟩

/-- V-WAIT: rows 5 and 6. -/
theorem test_waitStep_at_the_bound :
    seen (exec (.waitStep .high) { inPhase .noop .ackRise (line .low) with cnt := 254#8 })
      (fun t => (t.ret, t.cnt)) = some (.wait .cont, 255#8) ∧
    seen (exec (.waitStep .high) { inPhase .noop .ackRise (line .high) with cnt := 255#8 })
      (fun t => (t.ret, t.cnt)) = some (.wait (.done 255#8), 0#8) := ⟨rfl, rfl⟩

/-- V-WAIT: rows 7, 9 and 10. -/
theorem test_waitStep_order_of_tests :
    seen (exec (.waitStep .high) { inPhase .noop .ackRise (line .low) with cnt := 255#8 })
      (fun t => (t.ret, t.cnt)) = some (.wait .expired, 255#8) ∧
    seen (exec (.waitStep .high) { inPhase .noop .ackRise (faulting .low) with cnt := 255#8 })
      (fun t => (t.ret, t.cnt)) = some (.wait .fault, 255#8) ∧
    seen (exec (.waitStep .low) { inPhase .noop .ackFall (faulting .low) with cnt := 7#8 })
      (fun t => (t.ret, t.cnt)) = some (.wait .fault, 7#8) := ⟨rfl, rfl, rfl⟩

/-- V-DLY. -/
theorem test_delayStep :
    seen (exec .delayStep { inPhase .noop .startLow (line .low) with dly := 1#15 })
      (fun t => (t.ret, t.dly)) = some (.delay .cont, 0#15) ∧
    seen (exec .delayStep (inPhase .noop .startLow (line .low)))
      (fun t => (t.ret, t.dly)) = some (.delay .done, 0#15) := ⟨rfl, rfl⟩

/-- V-GUARD, rows 1 and 2. -/
theorem test_guardDisable :
    seen (exec .guardDisable (inPhase .real .idle (line .low))) (·.guard) = some true ∧
    seen (exec .guardDisable (inPhase .noop .idle (line .low))) (·.guard) = some false := ⟨rfl, rfl⟩

/-- V-GUARD, row 3. -/
theorem test_guardEnable :
    seen (exec .guardEnable (inPhase .real .bitHigh (line .low))) (fun t => (t.guard, t.irqMask)) =
      some (false, 0#1) := by rfl

/-! ## The frame -/

/-- P11: every pair (1, 0) but pairs 15 and 39, which are (1, 2). -/
theorem test_decide :
    seen (exec .decideBits { State.reset with
      phase := .decideBits
      pulse := Vector.ofFn fun i => if i = 15 ∨ i = 39 then ⟨1#8, 2#8⟩ else ⟨1#8, 0#8⟩ })
      (fun t => (t.sr, t.phase)) = some (0x0001000001#40, .check) := by decide +kernel

/-- V-CHECK, row 4, and STATUS of P5. -/
theorem test_check_mismatch :
    status (exec .check (captured .fix .check 0x028C010595#40)) = some 0x00270093#32 ∧
    seen (exec .check (captured .fix .check 0x028C010595#40)) (readRegister 2#3) = some 0x00009495#32 :=
  ⟨rfl, rfl⟩

/-- V-CHECK, row 6: the sum 1020 wraps to 252. -/
theorem test_check_wraps :
    seen (exec .check (captured .fix .check 0xFFFFFFFFFC#40)) (fun t => (t.phase, t.ckCalc)) =
      some (.interp, 0#8) := by rfl

/-- V-INT, rows 4 and 8. -/
theorem test_interpInt :
    seen (exec .interpInt (captured .int .interp 0x64008000E4#40)) (fun t => (t.hTmp, t.tTmp)) =
      some (1000#16, 1280#16) ∧
    seen (exec .interpInt (captured .int .interp 0xFFFFFFFFFC#40)) (fun t => (t.hTmp, t.tTmp)) =
      some (2550#16, 2550#16) := ⟨rfl, rfl⟩

/-- V-FIX, row 2 (the source's example S4), and row 4: negative zero. -/
theorem test_interpFix :
    seen (exec .interpFix (captured .fix .interp 0x0190850A20#40)) (fun t => (t.hTmp.toNat, t.tTmp.toInt)) =
      some (400, -1290) ∧
    seen (exec .interpFix (captured .fix .interp 0x0000800080#40)) (fun t => (t.hTmp, t.tTmp)) =
      some (0#16, 0#16) := by decide

/-- V-FIX, rows 7 and 8: the largest magnitude with either sign. -/
theorem test_interpFix_bounds :
    seen (exec .interpFix (captured .fix .interp 0x01907FFF0F#40)) (fun t => (t.hTmp.toNat, t.tTmp.toInt)) =
      some (400, 32767) ∧
    seen (exec .interpFix (captured .fix .interp 0x0190FFFF8F#40)) (fun t => (t.hTmp.toNat, t.tTmp.toInt)) =
      some (400, -32767) := by decide

/-- V-RANGE: 1000 passes, 1001 does not; STATUS of P6. -/
theorem test_range :
    seen (exec .range { captured .fix .range 0#40 with hTmp := 1000#16 }) (·.phase) = some .success ∧
    status (exec .range { captured .fix .range 0#40 with hTmp := 1001#16 }) = some 0x00270094#32 :=
  ⟨rfl, rfl⟩

/-- V-END. -/
theorem test_success :
    status (exec .success { captured .fix .success 0x028C010594#40 with hTmp := 652#16, tTmp := 261#16 }) =
      some 0x002700B1#32 ∧
    seen (exec .success { captured .fix .success 0x028C010594#40 with hTmp := 652#16, tTmp := 261#16 })
      (fun t => (t.hum, t.temp)) = some (652#16, 261#16) := ⟨rfl, rfl⟩

/-- V-INT, row 2: the ignored bytes are not in the fields. -/
theorem test_frame_int_fields :
    seen (exec (.frameInt 0x3C#8 0x07#8 0x19#8 0x09#8 0x65#8) State.reset) (·.ret) =
      some (.fields (.int 60#16 25#16 0x65#8)) := by rfl

/-- V-FIX, row 2. -/
theorem test_frame_fix_fields :
    seen (exec (.frameFix 0x0190#16 1#1 0x050A#15 0x20#8) State.reset) (·.ret) =
      some (.fields (.fix 400#16 true 1290#15 0x20#8)) := by rfl

/-- R92's corners. -/
theorem test_symbols :
    seen (exec (.sym1 254#8 255#8) State.reset) (·.ret) = some (.bit 1#1) ∧
    seen (exec (.sym0 255#8 255#8) State.reset) (·.ret) = some (.bit 0#1) := ⟨rfl, rfl⟩

/-! ## Accessors, registers, reset -/

/-- V-ACC, last line. -/
theorem test_humidity :
    seen (exec .humidity { State.reset with hum := 652#16 }) (·.ret) =
      some (.reading 0x0000028C#32 ⟨652, 10⟩) := by rfl

/-- V-ACC, row 6. -/
theorem test_temperature :
    seen (exec .temperature { State.reset with temp := 0xFAF6#16 }) (·.ret) =
      some (.reading 0xFFFFFAF6#32 ⟨-1290, 10⟩) := by rfl

/-- V-ACC, rows 6 and 9. -/
theorem test_fahrenheit :
    seen (exec .fahrenheit { State.reset with temp := 0xFAF6#16 }) (·.ret) =
      some (.reading 0xFFFFB1CC#32 ⟨-20020, 100⟩) ∧
    seen (exec .fahrenheit { State.reset with temp := 32767#16 }) (·.ret) =
      some (.reading 0x00090C6E#32 ⟨593006, 100⟩) := ⟨rfl, rfl⟩

/-- V-RESET: `rst` in the middle of a capture; STATUS just before it is the table's too. -/
theorem test_reset_tick :
    readRegister 0#3 { inPhase .real .bitLow resetting with bitIdx := 9#6 } = 0x000906C8#32 ∧
    status (step { inPhase .real .bitLow resetting with bitIdx := 9#6 }) = some 0x00000080#32 ∧
    seen (step { inPhase .real .bitLow resetting with bitIdx := 9#6 }) (readRegister 1#3) =
      some 0x00000003#32 := ⟨rfl, rfl, rfl⟩

/-- R47: a reserved register number reads as 0; R43: CKSUM after P5. -/
theorem test_host_reads :
    seen (step { State.reset with script := [.hostRead 6#3] }) (·.ret) = some (.register 0#32) ∧
    seen (step { State.reset with ckExp := 0x95#8, ckCalc := 0x94#8, script := [.hostRead 2#3] }) (·.ret) =
      some (.register 0x00009495#32) := ⟨rfl, rfl⟩

/-- The outcomes of the frames of P1, P2, P7, P5 and P6. -/
theorem test_frameOutcome :
    frameOutcome .int 0x3C00190055#40 = .reading 600 250 ∧
    frameOutcome .fix 0x028C010594#40 = .reading 652 261 ∧
    frameOutcome .fix 0x0190850A20#40 = .reading 400 (-1290) ∧
    frameOutcome .fix 0x028C010595#40 = .checksumMismatch 0x95 0x94 ∧
    frameOutcome .fix 0x05DC0105E7#40 = .invalidData := by decide

/-! ## Witnesses: states and operands that meet a statement's hypotheses -/

theorem witness_ResetTickRestoresEveryRegister :
    (inPhase .real .bitLow resetting).script = .tick resetting :: [] ∧ resetting.rst = true := ⟨rfl, rfl⟩

/-- Pair 39 of a capture is about to end. -/
def lastPair : State :=
  { inPhase .real .bitHigh (line .low) with cnt := 5#8, bitIdx := 39#6 }

theorem lastPair_inv : Inv lastPair := by constructor <;> decide

theorem lastPair_dataInv : DataInv lastPair := by
  refine ⟨fun _ => rfl, fun _ => ⟨rfl, rfl⟩, ?_, ?_, fun _ i h h' => absurd (show 39 < i from h) (by omega), fun _ => rfl, ?_, ?_, ?_, ?_, ?_⟩
  all_goals exact fun h => absurd h (by decide)

theorem witness_StepKeepsTheStateInvariant : Inv lastPair ∧ ∃ t, step lastPair = .next t ∧ t.phase = .decideBits :=
  ⟨lastPair_inv, _, rfl, rfl⟩

theorem witness_StepKeepsTheDataInvariant :
    Inv lastPair ∧ DataInv lastPair ∧ ∃ t, step lastPair = .next t ∧ t.phase = .decideBits :=
  ⟨lastPair_inv, lastPair_dataInv, _, rfl, rfl⟩

/-- P1's end state. -/
def succeeded : State :=
  { captured .int .idle 0x3C00190055#40 with
    code := .ok, hum := 600#16, temp := 250#16, hTmp := 600#16, tTmp := 250#16 }

theorem succeeded_inv : Inv succeeded := by constructor <;> decide

theorem succeeded_packed : succeeded.sr = packedBits succeeded.pulse := by decide +kernel

theorem succeeded_dataInv : DataInv succeeded := by
  refine ⟨?_, ?_, ?_, ?_, ?_, ?_, ?_, ?_, ?_, ?_, fun _ => ⟨rfl, succeeded_packed, by decide, by decide, by decide⟩⟩ <;>
    exact fun h => absurd h (by decide)

theorem witness_ReturnedReadingIsTheCapturedFrame :
    Inv succeeded ∧ DataInv succeeded ∧ succeeded.readResult = some (.reading ⟨600, 10⟩ ⟨250, 10⟩) :=
  ⟨succeeded_inv, succeeded_dataInv, rfl⟩

/-- Both clauses; in the second, CHECK is selected whatever the free inputs are. -/
theorem witness_StepRunsTheSelectedOperation :
    ((inPhase .real .idle starting).script = .tick starting :: [] ∧ starting.rst = false ∧
      decode (.phase4 (inPhase .real .idle starting).phase.code (BitVec.ofBool starting.start)
        (inPhase .real .idle starting).cfg.variant.bit) = .ok .read) ∧
    (∀ c : State, c = { captured .fix .check 0#40 with script := [] } → c.script = [] ∧
      decode (.phase4 c.phase.code (BitVec.ofBool (Config.freeInputs c.tick).start) c.cfg.variant.bit) = .ok .check) :=
  ⟨⟨rfl, rfl, rfl⟩, by rintro _ rfl; exact ⟨rfl, rfl⟩⟩

/-- Both clauses: register 5 has an accessor, registers 2 and 6 have none. -/
theorem witness_StepRunsTheHostAccess :
    ({ succeeded with script := [.hostRead 5#3] } : State).script = .hostRead 5#3 :: [] ∧
    decode (.accessor 5#3) = .ok .fahrenheit ∧ (∃ u, exec .fahrenheit succeeded = .next u) ∧
    (∀ i, decode (.accessor 2#3) ≠ .ok i) ∧ (∀ i, decode (.accessor 6#3) ≠ .ok i) :=
  ⟨rfl, rfl, ⟨_, rfl⟩, (fun _ h => nomatch h), (fun _ h => nomatch h)⟩

/-- The rows with a condition, at its boundary. -/
theorem witness_DecodeOfEncodeIsTheOperation :
    (Instr.sym0 255#8 255#8).wellFormed = true ∧ (Instr.sym1 254#8 255#8).wellFormed = true ∧
    (Instr.abort .pinFault).wellFormed = true := by decide

/-- A word with bits that select nothing, and the last code before the reserved ones. -/
theorem witness_EncodeOfDecodeKeepsTheSelectingBits :
    decode (.phase4 1#4 1#1 1#1) = .ok .startLow ∧ decode (.phase4 12#4 1#1 1#1) = .ok .success := ⟨rfl, rfl⟩

/-- Both clauses where they meet. -/
theorem witness_SymbolDecidesItsPair :
    (255#8).toNat ≤ (255#8).toNat ∧ (254#8).toNat < (255#8).toNat := by decide

theorem witness_GuardOperationsDriveTheMask :
    (inPhase .real .idle starting).cfg.guardImpl = .real ∧ (inPhase .noop .idle starting).cfg.guardImpl = .noop :=
  ⟨rfl, rfl⟩

/-- `n` ticks at one level. -/
def levelFor (n : Nat) (l : Level) : List Event := List.replicate n (.tick (line l))

theorem levelFor_samples (n : Nat) (l : Level) : ∀ e ∈ levelFor n l, sampleOf l e = true := by
  intro e he
  rw [levelFor, List.mem_replicate] at he
  rw [he.2]
  simp [sampleOf, line]

theorem levelFor_plain (n : Nat) (l : Level) : ∀ e ∈ levelFor n l, plainTick e = true := by
  intro e he
  rw [levelFor, List.mem_replicate] at he
  rw [he.2]
  rfl

theorem levelFor_length (n : Nat) (l : Level) : (levelFor n l).length = n := List.length_replicate

/-- Each clause at its bound: the 256th sample matches, does not match, faults. -/
theorem witness_WaitReturnsTheFirstMatch :
    (∀ e ∈ levelFor 255 .low, sampleOf (otherLevel .high) e = true) ∧ (levelFor 255 .low).length ≤ 255 ∧
    sampleOf .high (.tick (line .high)) = true ∧
    (∀ e ∈ levelFor 256 .low, sampleOf (otherLevel .high) e = true) ∧ (levelFor 256 .low).length = 256 ∧
    (faulting .high).pinFault = true :=
  ⟨levelFor_samples 255 .low, (levelFor_length 255 .low).le, rfl, levelFor_samples 256 .low,
    levelFor_length 256 .low, rfl⟩

/-- P2's variation and P8 (d): a fault in the middle of the hold. -/
theorem witness_PinInputsAreIgnoredWithoutAPinOperation :
    ({ inPhase .real .startLow (faulting .low) with dly := 1#15 } : State).script = .tick (faulting .low) :: [] ∧
    ({ inPhase .real .startLow (faulting .low) with dly := 1#15 } : State).pinOp = 0#2 := ⟨rfl, rfl⟩

/-- Each of the four operations. -/
theorem witness_PinOutFollowsTheAnnouncedOperation :
    (line .low).rst = false ∧ starting.rst = false ∧ (inPhase .real .idle (line .low)).pinOp = 0#2 ∧
    (inPhase .real .bitHigh (line .low)).pinOp = 1#2 ∧ (inPhase .real .idle starting).pinOp = 2#2 ∧
    (inPhase .real .startLow (line .low)).pinOp = 3#2 := ⟨rfl, rfl, rfl, rfl, rfl, rfl⟩

/-- Both clauses: in a wait, at the release, and at the accept step. -/
theorem witness_PinFaultAbortsAtAnyPinOperation :
    (faulting .low).rst = false ∧ (faulting .low).pinFault = true ∧
    (inPhase .real .bitHigh (faulting .low)).pinOp ≠ 0#2 ∧
    (inPhase .real .bitHigh (faulting .low)).phase ≠ .idle ∧
    (inPhase .real .startLow (faulting .low)).pinOp ≠ 0#2 ∧
    (inPhase .real .idle { starting with pinFault := true }).pinOp ≠ 0#2 ∧
    (inPhase .real .idle { starting with pinFault := true }).phase = .idle := by decide

theorem witness_IdleKeepsTheLastResult :
    (inPhase .real .idle (faulting .low)).script = .tick (faulting .low) :: [] ∧ (faulting .low).rst = false ∧
    (faulting .low).start = false ∧ (inPhase .real .idle (faulting .low)).phase = .idle := ⟨rfl, rfl, rfl, rfl⟩

theorem witness_BitLowStoresTheLowCount :
    ({ inPhase .real .bitLow (line .high) with bitIdx := 39#6 } : State).inputs.pinFault = false ∧
    ({ inPhase .real .bitLow (line .high) with bitIdx := 39#6 } : State).inputs.pinIn = .high ∧
    ({ inPhase .real .bitLow (line .high) with bitIdx := 39#6 } : State).bitIdx.toNat < 40 := by decide

theorem witness_BitHighStoresTheHighCount :
    lastPair.inputs.pinFault = false ∧ lastPair.inputs.pinIn = .low ∧ lastPair.bitIdx.toNat < 40 := by decide

theorem witness_CommandReadIsReadInIdleOnly :
    (inPhase .real .idle starting).phase = .idle ∧ (inPhase .real .success starting).phase ≠ .idle := by decide

/-- Each of the four results, at its bound. -/
theorem witness_WaitingPhaseIsOneWaitStep :
    waitTarget (inPhase .real .ackRise (line .low)).phase = some .high ∧
    (∃ u, exec (.waitStep .high) { inPhase .real .ackRise (line .low) with cnt := 254#8 } = .next u ∧
      u.ret = .wait .cont) ∧
    (∃ u, exec (.waitStep .high) { inPhase .real .ackRise (line .low) with cnt := 255#8 } = .next u ∧
      u.ret = .wait .expired) ∧
    (∃ u, exec (.waitStep .high) { inPhase .real .ackRise (line .high) with cnt := 255#8 } = .next u ∧
      u.ret = .wait (.done 255#8)) ∧
    (∃ u, exec (.waitStep .high) { inPhase .real .ackRise (faulting .high) with cnt := 255#8 } = .next u ∧
      u.ret = .wait .fault) :=
  ⟨rfl, ⟨_, rfl, rfl⟩, ⟨_, rfl, rfl⟩, ⟨_, rfl, rfl⟩, ⟨_, rfl, rfl⟩⟩

theorem witness_StartIsIgnoredWhileBusy :
    (inPhase .real .success starting).script = .tick starting :: [] ∧
    (inPhase .real .success starting).phase ≠ .idle := by decide

/-- P9: one block fresh from reset, one with a result in it. -/
theorem witness_AcceptStateIsIndependentOfThePast :
    (inPhase .noop .idle starting).cfg = { succeeded with cfg := config .fix .noop }.cfg ∧
    (inPhase .noop .idle starting).phase = .idle ∧ succeeded.phase = .idle ∧
    (inPhase .noop .idle starting).script = .tick starting :: [] ∧ starting.rst = false ∧ starting.start = true :=
  ⟨rfl, rfl, rfl, rfl, rfl, rfl⟩

/-- A phase that moves, a hold that stays, a wait that stays. -/
theorem witness_PhaseMovesOnlyAsTheSequenceSays :
    (∃ t, step lastPair = .next t ∧ t.phase = .decideBits) ∧
    (∃ t, step { inPhase .real .startHigh (line .low) with dly := 1#15 } = .next t ∧ t.phase = .startHigh) ∧
    (∃ t, step { inPhase .real .ackFall (line .high) with cnt := 254#8 } = .next t ∧ t.phase = .ackFall) :=
  ⟨⟨_, rfl, rfl⟩, ⟨_, rfl, rfl⟩, ⟨_, rfl, rfl⟩⟩

/-- A state of every outcome: the last sample of a wait, a wrong checksum, humidity 100.1, a pin fault, a success. -/
theorem witness_EachOutcomeHasExactlyItsCause :
    (Inv { inPhase .real .ackFall (line .high) with cnt := 255#8 } ∧
      ∃ t, step { inPhase .real .ackFall (line .high) with cnt := 255#8 } = .next t ∧ t.code = .notPresent) ∧
    (Inv { inPhase .real .bitHigh (line .high) with cnt := 255#8 } ∧
      ∃ t, step { inPhase .real .bitHigh (line .high) with cnt := 255#8 } = .next t ∧ t.code = .timeout) ∧
    (Inv (captured .fix .check 0x028C010595#40) ∧
      ∃ t, step (captured .fix .check 0x028C010595#40) = .next t ∧ t.code = .checksumMismatch) ∧
    (Inv { captured .fix .range 0#40 with hTmp := 1001#16 } ∧
      ∃ t, step { captured .fix .range 0#40 with hTmp := 1001#16 } = .next t ∧ t.code = .invalidData) ∧
    (Inv (inPhase .real .ackEnd (faulting .low)) ∧
      ∃ t, step (inPhase .real .ackEnd (faulting .low)) = .next t ∧ t.code = .pinFault) ∧
    (Inv { captured .fix .success 0#40 with hTmp := 1000#16 } ∧
      ∃ t, step { captured .fix .success 0#40 with hTmp := 1000#16 } = .next t ∧ t.code = .ok) :=
  ⟨⟨by constructor <;> decide, _, rfl, rfl⟩, ⟨by constructor <;> decide, _, rfl, rfl⟩,
    ⟨by constructor <;> decide, _, rfl, rfl⟩, ⟨by constructor <;> decide, _, rfl, rfl⟩,
    ⟨by constructor <;> decide, _, rfl, rfl⟩, ⟨by constructor <;> decide, _, rfl, rfl⟩⟩

/-- The guard held after the accept step, and released after the last pair. -/
theorem witness_GuardIsHeldExactlyFromStartToLastPair :
    (Inv (inPhase .real .idle starting) ∧
      ∃ t, step (inPhase .real .idle starting) = .next t ∧ t.phase = .startLow ∧ t.guard = true) ∧
    (Inv lastPair ∧ ∃ t, step lastPair = .next t ∧ t.phase = .decideBits ∧ t.guard = false) :=
  ⟨⟨by constructor <;> decide, _, rfl, rfl, rfl⟩, ⟨lastPair_inv, _, rfl, rfl, rfl⟩⟩

/-- P3b and P4b: an acknowledgement and a bit wait at which the line is stuck. -/
theorem witness_WrongLevelFor256SamplesExpires :
    waitTarget (inPhase .real .ackRise (line .low)).phase = some .high ∧
    waitTarget (inPhase .real .bitHigh (line .low)).phase = some .low ∧
    (inPhase .real .ackRise (line .low)).cnt = 0#8 ∧ (levelFor 256 .low).length = 256 ∧
    (∀ e ∈ levelFor 256 .low, sampleOf (otherLevel .high) e = true) :=
  ⟨rfl, rfl, rfl, levelFor_length 256 .low, levelFor_samples 256 .low⟩

/-- P10's longest pair, in the last entry and in the first. -/
theorem witness_PairDurationsAreStoredLessOne :
    (inPhase .real .bitLow (line .low)).phase = .bitLow ∧ (inPhase .real .bitLow (line .low)).cnt = 0#8 ∧
    lastPair.bitIdx.toNat ≤ 39 ∧ (levelFor 255 .low).length ≤ 255 ∧ (levelFor 255 .high).length ≤ 255 ∧
    (∀ e ∈ levelFor 255 .low, sampleOf .low e = true) ∧ sampleOf .high (.tick (line .high)) = true ∧
    (∀ e ∈ levelFor 255 .high, sampleOf .high e = true) ∧ sampleOf .low (.tick (line .low)) = true :=
  ⟨rfl, rfl, by decide, (levelFor_length 255 .low).le, (levelFor_length 255 .high).le, levelFor_samples 255 .low,
    rfl, levelFor_samples 255 .high, rfl⟩

/-- The shortest holds: T_START_LOW = T_START_HIGH = 1 (V-HOLD, last sentence). -/
def acceptShort (n : Nat) : State :=
  { State.reset with cfg := shortConfig .real, script := .tick starting :: levelFor n .low }

theorem acceptShort_plain (n : Nat) : ∀ e ∈ (acceptShort n).script, plainTick e = true := by
  intro e he
  obtain rfl | he := List.mem_cons.1 he
  · rfl
  · exact levelFor_plain n .low e he

theorem witness_HoldsLastExactlyTheirTicks :
    (acceptShort 3).phase = .idle ∧ (∀ e ∈ (acceptShort 3).script, plainTick e = true) ∧
    (acceptShort 3).cfg.tStartLow.ticks + (acceptShort 3).cfg.tStartHigh.ticks + 2 ≤ (acceptShort 3).script.length ∧
    (acceptShort 3).script[0]? = some (.tick starting) ∧ starting.start = true ∧ starting.pinFault = false ∧
    (acceptShort 3).script[(acceptShort 3).cfg.tStartLow.ticks]? = some (.tick (line .low)) ∧
    (line .low).pinFault = false :=
  ⟨rfl, acceptShort_plain 3, by decide, rfl, rfl, rfl, rfl, rfl⟩

theorem witness_EveryReadEndsWithinTheBound :
    (acceptShort 21300).phase = .idle ∧ (∀ e ∈ (acceptShort 21300).script, plainTick e = true) ∧
    (acceptShort 21300).script[0]? = some (.tick starting) ∧ starting.start = true ∧
    longestRead (acceptShort 21300).cfg < (acceptShort 21300).script.length :=
  ⟨rfl, acceptShort_plain 21300, rfl, rfl, by
    rw [show (acceptShort 21300).script = .tick starting :: levelFor 21300 .low from rfl, List.length_cons,
      levelFor_length]
    decide⟩

/-- P10's shortest read, with the shortest holds: the line alternates at every tick from the first sample on. -/
def shortestScript : State :=
  { State.reset with
    cfg := shortConfig .real
    script := .tick starting :: .tick (line .low) :: (List.range 89).map fun n =>
      .tick (line (if n % 2 = 0 then .high else .low)) }

theorem witness_NoReadSucceedsEarlier :
    shortestScript.phase = .idle ∧ starting.rst = false ∧ starting.start = true ∧
    shortestRead shortestScript.cfg = 90 ∧ seen (runFor (90 + 1) shortestScript) (·.code) = some .ok := by
  refine ⟨rfl, rfl, rfl, rfl, ?_⟩
  decide +kernel

/-- Uniform offset: the largest counts that still fit. -/
theorem witness_DecidedBitsIgnoreAUniformOffset :
    (∀ i < 40, ({ State.reset with pulse := Vector.replicate 40 ⟨253#8, 254#8⟩ } : State).pulseAt i = ⟨253#8, 254#8⟩) ∧
    (253#8).toNat + 1 < 256 ∧ (254#8).toNat + 1 < 256 ∧
    (∃ t, exec .decideBits { State.reset with pulse := Vector.replicate 40 ⟨253#8, 254#8⟩ } = .next t) := by
  refine ⟨fun i hi => ?_, by decide, by decide, _, rfl⟩
  simp [State.pulseAt, hi]

/-- The second clause: an operation that keeps the Reading and one that clears it. -/
theorem witness_SuccessCommitsTheReading :
    (Instr.idle ≠ .success ∧ ∃ u, exec .idle succeeded = .next u ∧ u.hum = 600#16) ∧
    (Instr.read ≠ .success ∧
      ∃ u, exec .read { succeeded with script := [.tick starting] } = .next u ∧ u.hum = 0#16) :=
  ⟨⟨by decide, _, rfl, rfl⟩, ⟨by decide, _, rfl, rfl⟩⟩

/-- Both outcomes: SUCCESS commits, an accept step clears. -/
theorem witness_ReadingIsCommittedWhole :
    (∃ t, step { captured .fix .success 0#40 with hTmp := 652#16, tTmp := 261#16 } = .next t ∧
      t.hum ≠ ({ captured .fix .success 0#40 with hTmp := 652#16, tTmp := 261#16 } : State).hum) ∧
    (∃ t, step { succeeded with script := [.tick starting] } = .next t ∧ t.temp ≠ succeeded.temp) :=
  ⟨⟨_, rfl, by decide⟩, ⟨_, rfl, by decide⟩⟩

/-- The hypotheses on the script; a frame of each outcome is in `test_frameOutcome`. -/
theorem witness_DecodePathComputesTheFrameOutcome :
    (captured .fix .check 0x028C010594#40).phase = .check ∧ (levelFor 4 .low).length = 4 ∧
    (∀ e ∈ levelFor 4 .low, plainTick e = true) ∧
    ({ captured .fix .check 0x028C010594#40 with script := levelFor 4 .low } : State).script = levelFor 4 .low ++ [] :=
  ⟨rfl, rfl, levelFor_plain 4 .low, rfl⟩

theorem witness_FahrenheitIsTheSourceFormula :
    ∃ t u w v c f, exec .temperature succeeded = .next t ∧ t.ret = .reading w c ∧
      exec .fahrenheit succeeded = .next u ∧ u.ret = .reading v f :=
  ⟨_, _, _, _, _, _, rfl, rfl, rfl, rfl⟩

end Sys2Proof.Tests
end

section
/-! PROOFS. IDLE with no command (spec/42_sequencer.md R152). -/

namespace Sys2Proof.Machine

/-- IDLE's operation writes nothing (R152). -/
@[simp] theorem exec_idle (s : State) : exec .idle s = .next s := rfl

/-- Without a command, IDLE selects its own operation (R100). -/
@[simp] theorem phaseInstr_idle_false (v : Variant) : phaseInstr .idle false v = .idle := rfl

/-- IDLE without a command announces no pin operation (R98). -/
theorem pinOp_of_idle {s : State} (hp : s.phase = .idle) (hs : s.inputs.start = false) : s.pinOp = 0#2 := by
  simp [State.pinOp, hp, hs, samplesPin]

/-- A tick in IDLE without a command or a reset spends its event and does nothing else. -/
theorem step_of_idle_tick {s : State} {inp : Inputs} {rest : List Event} (h : s.script = .tick inp :: rest)
    (hr : inp.rst = false) (hs : inp.start = false) (hp : s.phase = .idle) :
    step s = .next { s with script := rest, tick := s.tick + 1 } :=
  step_of_tick h hr (by rw [hp, hs, phaseInstr_idle_false, exec_idle])

/-- Settles O28: the tick's operation is IDLE's, which is the identity, and `pin_op` reads only PHASE and
`start`. -/
theorem idleKeepsTheLastResult : Obligations.IdleKeepsTheLastResult := by
  refine fun s => ⟨exec_idle s, fun inp rest h hr hs hp => ⟨?_, step_of_idle_tick h hr hs hp⟩⟩
  exact pinOp_of_idle hp (by rw [inputs_of_tick h, hs])

end Sys2Proof.Machine
end

section
/-! PROOFS. INTERP.FIX: the raw fields of a FIX frame and their interpretation (spec/44_variant_decoders.md R192;
the layout is 30_encoding.md R96's). -/

namespace Sys2Proof.Machine

/-- Bytes 0 and 1 side by side are the top 16 bits of SR (R62, R96). -/
theorem humRawFix_eq_extractLsb' (f : Frame) : humRawFix f = f.extractLsb' 24 16 :=
  BitVec.extractLsb'_append_extractLsb'_eq_extractLsb' rfl

/-- Bytes 2 and 3 without byte 2's top bit are SR[22 : 8] (R62, R96). -/
theorem magFix_eq_extractLsb' (f : Frame) : magFix f = f.extractLsb' 8 15 := by
  have low7 : (rawByte f 2).extractLsb' 0 7 = f.extractLsb' 16 7 := by
    ext i hi
    simp [rawByte, show i < 8 by omega]
  rw [magFix, low7]
  exact BitVec.extractLsb'_append_extractLsb'_eq_extractLsb' rfl

/-- The top bit of byte 2 is SR[23] (R62, R96). -/
theorem negFix_eq_getLsbD (f : Frame) : negFix f = f.getLsbD 23 := by
  simp [negFix, rawByte]

section
variable (h : BitVec 16) (sg : BitVec 1) (m : BitVec 15) (c : Byte)

/-- The humidity of a frame laid out as FIX is its humidity field. -/
@[simp] theorem humRawFix_frameOfFix : humRawFix (frameOfFix h sg m c) = h := by
  rw [humRawFix_eq_extractLsb', frameOfFix, BitVec.extractLsb'_append_eq_of_le (by decide),
    BitVec.extractLsb'_append_eq_of_le (by decide)]
  exact BitVec.extractLsb'_append_eq_left

/-- The magnitude of a frame laid out as FIX is its magnitude field. -/
@[simp] theorem magFix_frameOfFix : magFix (frameOfFix h sg m c) = m := by
  rw [magFix_eq_extractLsb', frameOfFix, BitVec.extractLsb'_append_eq_of_le (by decide)]
  exact BitVec.extractLsb'_append_eq_right

/-- The sign of a frame laid out as FIX is its sign field. -/
@[simp] theorem negFix_frameOfFix : negFix (frameOfFix h sg m c) = decide (sg = 1#1) := by
  have bit23 : (frameOfFix h sg m c).getLsbD 23 = sg.getLsbD 0 := by
    simp only [frameOfFix, BitVec.getLsbD_append]
    rfl
  have bit_iff_one : ∀ b : BitVec 1, b.getLsbD 0 = decide (b = 1#1) := by decide
  rw [negFix_eq_getLsbD, bit23, bit_iff_one]

/-- A 15-bit magnitude of either sign fits 16 bits, so the conversion cannot overflow (R192, R194). -/
theorem toInt_signedMagnitude (neg : Bool) :
    (signedMagnitude neg m).toInt = if neg then -(m.toNat : Int) else (m.toNat : Int) := by
  have hm : m.toNat < 2 ^ 15 := m.isLt
  refine BitVec.toInt_ofInt_eq_self (by decide) ?_ ?_ <;> split_ifs <;> omega

end

/-- INTERP.FIX's step (R192). -/
theorem exec_interpFix (s : State) : exec .interpFix s = .next
    { s with hTmp := humRawFix s.sr, tTmp := signedMagnitude (negFix s.sr) (magFix s.sr), phase := .range } := rfl

/-- Settles O52: the three raw fields of the frame are the layout's own fields, and sign and magnitude convert
without overflow. -/
theorem interpFixReadsSignAndMagnitude : Obligations.InterpFixReadsSignAndMagnitude := by
  intro s h sg m c
  refine ⟨_, exec_interpFix _, rfl, humRawFix_frameOfFix h sg m c, ?_⟩
  change (signedMagnitude (negFix (frameOfFix h sg m c)) (magFix (frameOfFix h sg m c))).toInt = _
  rw [toInt_signedMagnitude, negFix_frameOfFix, magFix_frameOfFix]
  simp only [decide_eq_true_eq]

end Sys2Proof.Machine
end

section
/-! PROOFS. The encodings: decode and encode agree in both directions, and which words are rejected
(spec/30_encoding.md R90 to R103, R166; 10_state.md R41 to R47). -/

namespace Sys2Proof

open Sys2Proof.Laws

/-! ## From an operation to its word and back -/

/-- Settles O10, one lemma of `Laws.RoundTrip` per operation. -/
theorem decodeOfEncodeIsTheOperation : Obligations.DecodeOfEncodeIsTheOperation := by
  intro i
  cases i with
  | read => exact RoundTrip.read
  | idle => exact RoundTrip.idle
  | startLow => exact RoundTrip.startLow
  | startHigh => exact RoundTrip.startHigh
  | ackFall => exact RoundTrip.ackFall
  | ackRise => exact RoundTrip.ackRise
  | ackEnd => exact RoundTrip.ackEnd
  | bitLow => exact RoundTrip.bitLow
  | bitHigh => exact RoundTrip.bitHigh
  | decideBits => exact RoundTrip.decideBits
  | check => exact RoundTrip.check
  | interpInt => exact RoundTrip.interpInt
  | interpFix => exact RoundTrip.interpFix
  | range => exact RoundTrip.range
  | success => exact RoundTrip.success
  | pinNone => exact RoundTrip.pinNone
  | pinRead => exact RoundTrip.pinRead
  | pinSetLow => exact RoundTrip.pinSetLow
  | pinSetHigh => exact RoundTrip.pinSetHigh
  | guardEnable => exact RoundTrip.guardEnable
  | guardDisable => exact RoundTrip.guardDisable
  | cmdNone => exact RoundTrip.cmdNone
  | cmdRead => exact RoundTrip.cmdRead
  | frameInt h x t y c => exact RoundTrip.frameInt h x t y c
  | frameFix h s m c => exact RoundTrip.frameFix h s m c
  | sym0 low high => exact RoundTrip.sym0 low high
  | sym1 low high => exact RoundTrip.sym1 low high
  | waitStep target => exact RoundTrip.waitStep target
  | delayStep => exact RoundTrip.delayStep
  | abort code => exact RoundTrip.abort code
  | humidity => exact RoundTrip.humidity
  | temperature => exact RoundTrip.temperature
  | fahrenheit => exact RoundTrip.fahrenheit

/-! ## From a word to its operation and back -/

/-- A code stands for a phase exactly if it is that phase's code (R100). -/
theorem Phase.ofCode_eq_some_iff (c : BitVec 4) (p : Phase) : Phase.ofCode c = some p ↔ c = p.code := by
  revert c; cases p <;> decide

/-- A CODE value names an error kind exactly if it is that kind's code (R102). -/
theorem ErrorKind.ofBits_eq_some_iff (c : BitVec 3) (e : ErrorKind) :
    ErrorKind.ofBits c = some e ↔ c = e.code.bits := by
  revert c; cases e <;> decide

@[simp] theorem Level.bit_ofBit (b : BitVec 1) : (Level.ofBit b).bit = b := by revert b; decide

/-- The operation PHASE selects is encoded by the word that selects it, up to the bits that do not (R100). -/
theorem encode_phaseInstr (p : Phase) (start v : BitVec 1) :
    encode (phaseInstr p (start == 1#1) (Variant.ofBit v)) = (OpWord.phase4 p.code start v).significant := by
  revert start v; cases p <;> decide

theorem wellFormed_phaseInstr (p : Phase) (start : Bool) (v : Variant) :
    (phaseInstr p start v).wellFormed = true := by
  cases p <;> cases start <;> cases v <;> rfl

/-- The five fields of the INT layout are the whole frame (R94). -/
theorem encode_decodeFrameInt (f : Frame) : encode (decodeFrameInt f) = .frame40 0#1 f := by
  have bytes : f.extractLsb' 32 8 ++ f.extractLsb' 24 8 ++ f.extractLsb' 16 8 ++ f.extractLsb' 8 8 ++
      f.extractLsb' 0 8 = f := by
    rw [BitVec.extractLsb'_append_extractLsb'_eq_extractLsb' (show 32 = 24 + 8 from rfl),
      BitVec.extractLsb'_append_extractLsb'_eq_extractLsb' (show 24 = 16 + 8 from rfl),
      BitVec.extractLsb'_append_extractLsb'_eq_extractLsb' (show 16 = 8 + 8 from rfl),
      BitVec.extractLsb'_append_extractLsb'_eq_extractLsb' (show 8 = 0 + 8 from rfl)]
    exact BitVec.extractLsb'_eq_self
  exact congrArg (OpWord.frame40 0#1) bytes

/-- The four fields of the FIX layout are the whole frame (R95). -/
theorem encode_decodeFrameFix (f : Frame) : encode (decodeFrameFix f) = .frame40 1#1 f := by
  have fields : f.extractLsb' 24 16 ++ f.extractLsb' 23 1 ++ f.extractLsb' 8 15 ++ f.extractLsb' 0 8 = f := by
    rw [BitVec.extractLsb'_append_extractLsb'_eq_extractLsb' (show 24 = 23 + 1 from rfl),
      BitVec.extractLsb'_append_extractLsb'_eq_extractLsb' (show 23 = 8 + 15 from rfl),
      BitVec.extractLsb'_append_extractLsb'_eq_extractLsb' (show 8 = 0 + 8 from rfl)]
    exact BitVec.extractLsb'_eq_self
  exact congrArg (OpWord.frame40 1#1) fields

/-- The register numbers with an accessor, and what becomes of the others (R201 to R203). -/
theorem decode_accessor_cases (r : BitVec 3) :
    (r = 3#3 ∧ decode (.accessor r) = .ok .humidity ∨ r = 4#3 ∧ decode (.accessor r) = .ok .temperature ∨
      r = 5#3 ∧ decode (.accessor r) = .ok .fahrenheit) ∨
    (¬ (r = 3#3 ∨ r = 4#3 ∨ r = 5#3) ∧ decode (.accessor r) = .error (.notAnAccessor r)) := by
  revert r; decide

/-- Settles O11, format by format: each part of a word's operation reads back the bits it was decoded from. -/
theorem encodeOfDecodeKeepsTheSelectingBits : Obligations.EncodeOfDecodeKeepsTheSelectingBits := by
  intro w i hw
  cases w with
  | phase4 c start v =>
    simp only [decode] at hw
    split at hw
    · next p hp =>
      cases hw
      rw [(Phase.ofCode_eq_some_iff c p).1 hp]
      exact ⟨encode_phaseInstr p start v, wellFormed_phaseInstr p _ _⟩
    · cases hw
  | pinOp2 c => cases hw; revert c; decide
  | guard1 m => cases hw; revert m; decide
  | cmd1 s => cases hw; revert s; decide
  | frame40 v f =>
    cases hw
    obtain rfl | rfl : v = 0#1 ∨ v = 1#1 := by revert v; decide
    · exact ⟨encode_decodeFrameInt f, rfl⟩
    · exact ⟨encode_decodeFrameFix f, rfl⟩
  | symbol low high =>
    cases hw
    split
    · next h => exact ⟨rfl, decide_eq_true h⟩
    · next h => exact ⟨rfl, decide_eq_true (BitVec.not_lt.1 h)⟩
  | waitPrim t => cases hw; exact ⟨congrArg OpWord.waitPrim (Level.bit_ofBit t), rfl⟩
  | delayPrim => cases hw; exact ⟨rfl, rfl⟩
  | abortPrim c =>
    simp only [decode] at hw
    split at hw
    · next e he =>
      cases hw
      rw [(ErrorKind.ofBits_eq_some_iff c e).1 he]
      exact ⟨rfl, rfl⟩
    · cases hw
  | accessor r =>
    obtain (⟨rfl, -⟩ | ⟨rfl, -⟩ | ⟨rfl, -⟩) | ⟨-, he⟩ := decode_accessor_cases r
    · cases hw; exact ⟨rfl, rfl⟩
    · cases hw; exact ⟨rfl, rfl⟩
    · cases hw; exact ⟨rfl, rfl⟩
    · cases he.symm.trans hw

/-! ## Rejected words -/

/-- A PHASE4 word is rejected exactly if its code is reserved (R101). -/
theorem decode_phase4_rejects_iff (c : BitVec 4) (start v : BitVec 1) :
    (∃ e, decode (.phase4 c start v) = .error e) ↔ 13 ≤ c.toNat := by
  have reserved : (Phase.ofCode c).isNone ↔ 13 ≤ c.toNat := by revert c; decide
  rw [← reserved]
  simp only [decode]
  cases hp : Phase.ofCode c <;> simp

/-- An ABORT word is rejected exactly if its CODE is NONE, OK or reserved (R102, R166). -/
theorem decode_abortPrim_rejects_iff (c : BitVec 3) :
    (∃ e, decode (.abortPrim c) = .error e) ↔ c = 0#3 ∨ c = 1#3 ∨ c = 7#3 := by
  have named : (ErrorKind.ofBits c).isNone ↔ c = 0#3 ∨ c = 1#3 ∨ c = 7#3 := by revert c; decide
  rw [← named]
  simp only [decode]
  cases he : ErrorKind.ofBits c <;> simp

/-- An accessor word is rejected exactly if no accessor has its register number (R201 to R203). -/
theorem decode_accessor_rejects_iff (r : BitVec 3) :
    (∃ e, decode (.accessor r) = .error e) ↔ ¬ (r = 3#3 ∨ r = 4#3 ∨ r = 5#3) := by
  obtain h | h := decode_accessor_cases r
  · obtain ⟨rfl, hr⟩ | ⟨rfl, hr⟩ | ⟨rfl, hr⟩ := h <;> simp [hr]
  · simp [h]

/-- Settles O13: the other formats are full, and the three that are not reject exactly these words. -/
theorem exactlyTheReservedWordsAreRejected : Obligations.ExactlyTheReservedWordsAreRejected := by
  intro w
  cases w with
  | phase4 c start v => simp [decode_phase4_rejects_iff]
  | abortPrim c => simp [decode_abortPrim_rejects_iff]
  | accessor r => simp [decode_accessor_rejects_iff]
  | pinOp2 c => simp [decode]
  | guard1 m => simp [decode]
  | cmd1 s => simp [decode]
  | frame40 v f => simp [decode]
  | symbol low high => simp [decode]
  | waitPrim t => simp [decode]
  | delayPrim => simp [decode]

/-- Settles O12: the nine words, each run through the decoder. -/
theorem tableWordsDecode : Obligations.TableWordsDecode := by
  refine ⟨?_, ?_, ?_, ?_, ?_, ?_, ?_, ?_, ?_⟩ <;> rfl

end Sys2Proof
end

section
/-! PROOFS. What each operation does, outcome by outcome: the pin, the Pulse Timer, the delay and the guard
(spec/40_pulse_timer.md, 41_interrupt_guard.md), the handshake sequencer (42_sequencer.md) and the rows of SYMBOL and
FRAME40 (30_encoding.md R91 to R96). -/

namespace Sys2Proof.Machine

/-! ## The pin, the Pulse Timer, the delay, the guard -/

/-- Settles O16: PIN_READ's two results (R120). -/
theorem pinReadReturnsLevelOrFault : Obligations.PinReadReturnsLevelOrFault := fun _ => rfl

/-- Settles O17: the write of a set does not look at `pin_fault`, only its result does (R121, R122). -/
theorem pinSetOperationsWritePinOut : Obligations.PinSetOperationsWritePinOut := fun _ => ⟨rfl, rfl⟩

/-- Settles O18: both operations are the identity. -/
theorem noOperationAndNoCommandWriteNothing : Obligations.NoOperationAndNoCommandWriteNothing :=
  fun _ => ⟨rfl, rfl⟩

/-- Settles O19: WAIT_STEP's write follows its result, whose tests `waitResult_eq` puts in order. -/
theorem waitStepTestsFaultLevelBound : Obligations.WaitStepTestsFaultLevelBound := by
  intro target s
  simp only [exec, execWaitStep, waitResult_eq]
  split_ifs <;> rfl

/-- Settles O20: one test of DLY decides result and write (R126). -/
theorem delayStepCountsDownToDone : Obligations.DelayStepCountsDownToDone := by
  intro s
  simp only [exec, execDelayStep, delayResult]
  by_cases h : s.dly = 0#15
  · rw [if_pos h, if_neg (not_not.2 h)]; rfl
  · rw [if_neg h, if_pos h]; rfl

/-- Settles O21: GUARD_DISABLE writes whether the guard built in is the real one (R141). -/
theorem guardOperationsDriveTheMask : Obligations.GuardOperationsDriveTheMask := by
  have disable : ∀ s : State, exec .guardDisable s = .next { s with guard := decide (s.cfg.guardImpl = .real) } :=
    fun _ => rfl
  exact fun s => ⟨rfl, fun h => by simp [disable, h], fun h => by simp [disable, h], rfl, rfl⟩

/-! ## The sequencer -/

/-- The accept step (R150). -/
theorem exec_read (s : State) : exec .read s = .next (acceptRead s) := rfl

/-- Settles O27: `acceptRead_eq`, its two outcomes read as one record. -/
theorem readClearsTakesTheGuardAndPullsLow : Obligations.ReadClearsTakesTheGuardAndPullsLow := by
  intro s
  rw [exec_read, acceptRead_eq]
  cases s.inputs.pinFault <;> rfl

/-- START_LOW's three outcomes (R153). -/
theorem exec_startLow (s : State) : exec .startLow s = .next (
    if s.dly = 0#15 then
      if s.inputs.pinFault = true then (s.drivePin .high).abortWith .pinFault
      else { s.drivePin .high with dly := holdPreload s.cfg.tStartHigh, phase := .startHigh }
    else { s with dly := s.dly - 1#15 }) := execStartLow_eq s

/-- Settles O29. -/
theorem startLowHoldsThenReleases : Obligations.StartLowHoldsThenReleases := by
  intro s
  rw [exec_startLow, ite_not]
  rfl

/-- START_HIGH's two outcomes (R154). -/
theorem exec_startHigh (s : State) : exec .startHigh s = .next (
    if s.dly = 0#15 then { s with cnt := 0#8, phase := .ackFall } else { s with dly := s.dly - 1#15 }) :=
  execStartHigh_eq s

/-- Settles O30. -/
theorem startHighHoldsThenListens : Obligations.StartHighHoldsThenListens := by
  intro s
  rw [exec_startHigh, ite_not]

/-- Settles O31: `waitPhase_eq` at the three acknowledgement phases. -/
theorem acknowledgementWaitsForFallRiseFall : Obligations.AcknowledgementWaitsForFallRiseFall := fun s =>
  ⟨congrArg _ (waitPhase_eq _ _ _ s), congrArg _ (waitPhase_eq _ _ _ s), congrArg _ (waitPhase_eq _ _ _ s)⟩

/-- BIT_LOW's four outcomes (R159). -/
theorem exec_bitLow (s : State) : exec .bitLow s = .next (
    if s.inputs.pinFault = true then s.abortWith .pinFault
    else if s.inputs.pinIn = .high then
      { s.setPulseLow s.bitIdx.toNat s.cnt with cnt := 0#8, phase := .bitHigh }
    else if s.cnt = 255#8 then s.abortWith .timeout else { s with cnt := s.cnt + 1#8 }) :=
  congrArg _ (waitPhase_eq _ _ _ s)

/-- Settles O32: the stored entry is read back by `pulseAt_setPulseLow`. -/
theorem bitLowStoresTheLowCount : Obligations.BitLowStoresTheLowCount := by
  intro s
  refine ⟨_, exec_bitLow s, by split_ifs <;> rfl, fun hf hl hi j _ => ?_⟩
  rw [if_neg (by simp [hf]), if_pos hl]
  refine (pulseAt_setPulseLow s _ j s.cnt hi).trans ?_
  split_ifs with hj
  · rw [hj]
  · rfl

/-- BIT_HIGH's five outcomes (R160). -/
theorem exec_bitHigh (s : State) : exec .bitHigh s = .next (
    if s.inputs.pinFault = true then s.abortWith .pinFault
    else if s.inputs.pinIn = .low then
      if s.bitIdx = 39#6 then
        { s.setPulseHigh s.bitIdx.toNat s.cnt with cnt := 0#8, guard := false, phase := .decideBits }
      else { s.setPulseHigh s.bitIdx.toNat s.cnt with cnt := 0#8, bitIdx := s.bitIdx + 1#6, phase := .bitLow }
    else if s.cnt = 255#8 then s.abortWith .timeout else { s with cnt := s.cnt + 1#8 }) :=
  congrArg _ (waitPhase_eq _ _ _ s)

/-- Settles O33: the stored entry is read back by `pulseAt_setPulseHigh`, whichever phase follows. -/
theorem bitHighStoresTheHighCount : Obligations.BitHighStoresTheHighCount := by
  intro s
  refine ⟨_, exec_bitHigh s, by split_ifs <;> rfl, fun hf hl hi j _ => ?_⟩
  have stored := pulseAt_setPulseHigh s _ j s.cnt hi
  rw [if_neg (by simp [hf]), if_pos hl]
  by_cases hj : j = s.bitIdx.toNat
  · rw [if_pos hj] at stored ⊢
    rw [hj] at stored ⊢
    split_ifs <;> exact stored
  · rw [if_neg hj] at stored ⊢
    split_ifs <;> exact stored

/-- Settles O34: one arm per error kind. -/
theorem abortWritesCodeGuardAndPhaseOnly : Obligations.AbortWritesCodeGuardAndPhaseOnly := by
  intro e s
  cases e <;> rfl

/-- BUSY is the test of PHASE that CMD.READ makes (R40, R103). -/
theorem busy_eq_false_iff (s : State) : s.busy = false ↔ s.phase = .idle := by simp [State.busy]

/-- Settles O35: CMD.READ tests BUSY (R103, R162). -/
theorem commandReadIsReadInIdleOnly : Obligations.CommandReadIsReadInIdleOnly := by
  have cmdRead : ∀ s : State, exec .cmdRead s = .next (if s.busy then s else acceptRead s) := fun _ => rfl
  intro s
  constructor
  · intro hp
    rw [cmdRead, (busy_eq_false_iff s).2 hp]
    exact ⟨rfl, _, rfl⟩
  · intro hp
    have busy : s.busy = true := by simpa [State.busy] using hp
    rw [cmdRead, busy, if_pos rfl]

/-- Settles O53: RANGE looks at H_TMP alone (R196, R197). -/
theorem rangeRejectsHumidityAbove100Percent : Obligations.RangeRejectsHumidityAbove100Percent :=
  fun s => execRange_eq s

/-! ## Frames and symbols -/

/-- Byte k of a frame laid out as INT is its k-th field (R62, R94). -/
theorem rawByte_frameOfInt (h x t y c : Byte) :
    rawByte (frameOfInt h x t y c) 0 = h ∧ rawByte (frameOfInt h x t y c) 1 = x ∧
    rawByte (frameOfInt h x t y c) 2 = t ∧ rawByte (frameOfInt h x t y c) 3 = y ∧
    rawByte (frameOfInt h x t y c) 4 = c := by
  have fields := Laws.RoundTrip.frameInt h x t y c rfl
  injection fields with fields
  injection fields with h0 h1 h2 h3 h4
  exact ⟨h0, h1, h2, h3, h4⟩

/-- The checksum byte of a frame laid out as FIX (R95). -/
theorem rawByte_four_frameOfFix (h : BitVec 16) (sg : BitVec 1) (m : BitVec 15) (c : Byte) :
    rawByte (frameOfFix h sg m c) 4 = c := by
  have fields := Laws.RoundTrip.frameFix h sg m c rfl
  injection fields with fields
  injection fields

/-- Settles O14: both layouts decode by the round trip of their rows, and their raw fields are read from the same
places. -/
theorem frameFieldsFollowTheLayouts : Obligations.FrameFieldsFollowTheLayouts := by
  refine ⟨fun s h x t y c => ⟨Laws.RoundTrip.frameInt h x t y c rfl, ?_⟩, fun s h1 h0 sg m1 m0 c => ⟨?_, ?_⟩⟩
  · obtain ⟨e0, -, e2, -, e4⟩ := rawByte_frameOfInt h x t y c
    simp only [exec, execFrameInt, humRawInt, tempRawInt, e0, e2, e4]
    rfl
  · have e : h1 ++ h0 ++ sg ++ m1 ++ m0 ++ c = frameOfFix (h1 ++ h0) sg (m1 ++ m0) c := by
      unfold frameOfFix
      rw [BitVec.append_assoc (x₁ := h1 ++ h0 ++ sg)]
      rfl
    rw [e]
    exact Laws.RoundTrip.frameFix (h1 ++ h0) sg (m1 ++ m0) c rfl
  · simp only [exec, execFrameFix, humRawFix_frameOfFix, magFix_frameOfFix, negFix_frameOfFix,
      rawByte_four_frameOfFix]
    rfl

/-- Settles O15: both symbols deliver the decided bit of their pair (R91). -/
theorem symbolDecidesItsPair : Obligations.SymbolDecidesItsPair := by
  intro s low high
  refine ⟨rfl, fun h => ?_, fun h => ?_⟩
  · have bit : decidedBit ⟨low, high⟩ = 0#1 := if_neg (Nat.not_lt.2 h)
    rw [← bit]; rfl
  · have bit : decidedBit ⟨low, high⟩ = 1#1 := if_pos h
    rw [← bit]; rfl

end Sys2Proof.Machine
end

section
/-! PROOFS. One step: its three kinds, and everything one tick of the sequencer can do (spec/00_scope.md R8;
30_encoding.md R98, R100; 42_sequencer.md R150 to R166; 70_reset_and_hazards.md R240). -/

namespace Sys2Proof.Machine

/-! ## The kinds of a step -/

/-- A scripted tick fetches by its own inputs. -/
theorem fetch_of_tick {s : State} {inp : Inputs} {rest : List Event} (h : s.script = .tick inp :: rest) :
    fetch s = if inp.rst then .reset else .operation (phaseInstr s.phase inp.start s.cfg.variant) := by
  simp only [fetch, h, fetchTick, inputs_of_tick h]

/-- With nothing scripted a tick fetches by the free inputs. -/
theorem fetch_of_nil {s : State} (h : s.script = []) :
    fetch s = if (Config.freeInputs s.tick).rst then .reset
      else .operation (phaseInstr s.phase (Config.freeInputs s.tick).start s.cfg.variant) := by
  simp only [fetch, h, fetchTick, inputs_of_nil h]

theorem fetch_of_hostRead {s : State} {r : BitVec 3} {rest : List Event} (h : s.script = .hostRead r :: rest) :
    fetch s = fetchHostRead r := by
  simp only [fetch, h]

theorem step_of_reset {s : State} (h : fetch s = .reset) : step s = .next s.resetBlock.advance := by
  simp only [step, h]

theorem step_of_register {s : State} {r : BitVec 3} (h : fetch s = .register r) :
    step s = .next (s.deliver (.register (readRegister r s))).advance := by
  simp only [step, h]

theorem step_of_operation {s u : State} {i : Instr} (h : fetch s = .operation i) (hu : exec i s = .next u) :
    step s = .next u.advance := by
  simp only [step, h, hu]

/-- The block never stops (log 19). -/
theorem step_answers_next (s : State) : ∃ t, step s = .next t := by
  cases h : fetch s with
  | reset => exact ⟨_, step_of_reset h⟩
  | register r => exact ⟨_, step_of_register h⟩
  | operation i =>
    obtain ⟨u, hu⟩ := exec_answers_next i s
    exact ⟨_, step_of_operation h hu⟩

/-- Each accessor writes the latch alone. -/
theorem exec_accessor (s : State) :
    exec .humidity s = .next (s.deliver (.reading (humWord s) ⟨(s.hum.toNat : Int), 10⟩)) ∧
    exec .temperature s = .next (s.deliver (.reading (tempWord s) ⟨s.temp.toInt, 10⟩)) ∧
    exec .fahrenheit s = .next (s.deliver (.reading (tempfWord s) ⟨fahrenheitHundredths s, 100⟩)) :=
  ⟨rfl, rfl, rfl⟩

/-- The three kinds of a step: a reset, a host access, which writes the latch alone, or the operation PHASE selects. -/
theorem step_kinds {s t : State} (h : step s = .next t) :
    t = s.resetBlock.advance ∨ (∃ r, t = (s.deliver r).advance) ∨
    (∃ u, exec (phaseInstr s.phase s.inputs.start s.cfg.variant) s = .next u ∧ t = u.advance) := by
  obtain ⟨-, rfl⟩ | ⟨r, -, rfl⟩ | ⟨i, u, hi, hu, rfl⟩ := step_cases h
  · exact .inl rfl
  · exact .inr (.inl ⟨_, rfl⟩)
  · obtain ⟨hum, temp, fahr⟩ := exec_accessor s
    obtain ⟨rfl, -⟩ | rfl | rfl | rfl := fetch_operation_cases hi
    · exact .inr (.inr ⟨u, hu, rfl⟩)
    · cases hum.symm.trans hu; exact .inr (.inl ⟨_, rfl⟩)
    · cases temp.symm.trans hu; exact .inr (.inl ⟨_, rfl⟩)
    · cases fahr.symm.trans hu; exact .inr (.inl ⟨_, rfl⟩)

/-- No step changes a constant of the configuration (20_memory.md R74). -/
theorem step_cfg {s t : State} (h : step s = .next t) : t.cfg = s.cfg := by
  obtain rfl | ⟨r, rfl⟩ | ⟨u, hu, rfl⟩ := step_kinds h
  · simp
  · simp
  · obtain ⟨-, -, hc⟩ := exec_keeps_environment hu
    simp [hc]

/-- Settles O7. -/
theorem everyStepAnswersAndKeepsTheConfiguration : Obligations.EveryStepAnswersAndKeepsTheConfiguration := by
  intro s
  obtain ⟨t, ht⟩ := step_answers_next s
  exact ⟨t, ht, step_cfg ht⟩

/-! ## Reset -/

/-- Settles O1: the reset state, field by field. -/
theorem resetHoldsTheResetValues : Obligations.ResetHoldsTheResetValues := by
  have cleared : ∀ i < 40, State.reset.pulseAt i = ⟨0#8, 0#8⟩ := by
    intro i hi
    simp [State.pulseAt, State.reset, clearedPulses, hi]
  refine ⟨rfl, rfl, rfl, rfl, cleared, ?_⟩
  decide

/-- Settles O2: `pin_op` tests `rst` first, and the step is `State.resetBlock`. -/
theorem resetTickRestoresEveryRegister : Obligations.ResetTickRestoresEveryRegister := by
  intro s inp rest h hr
  have fetched : fetch s = .reset := by rw [fetch_of_tick h, if_pos hr]
  refine ⟨by simp [State.pinOp, inputs_of_tick h, hr], ?_⟩
  rw [step_of_reset fetched, advance_of_tick (s := s.resetBlock) h]
  rfl

/-! ## The step as `exec` of what is fetched -/

/-- The word of PHASE, `start` and VARIANT decodes to the operation PHASE selects (R100). -/
theorem decode_selector (p : Phase) (start : Bool) (v : Variant) :
    decode (.phase4 p.code (BitVec.ofBool start) v.bit) = .ok (phaseInstr p start v) := by
  cases start <;> simp [decode]

/-- Settles O8: the decoded word is the fetched operation, and `State.advance` spends the tick. -/
theorem stepRunsTheSelectedOperation : Obligations.StepRunsTheSelectedOperation := by
  refine ⟨fun s inp rest i h hr hi => ?_, fun s i h hi => ?_⟩
  · rw [decode_selector] at hi
    cases hi
    obtain ⟨u, hu⟩ := exec_answers_next (phaseInstr s.phase inp.start s.cfg.variant) s
    rw [step_of_tick h hr hu, hu]
  · rw [decode_selector] at hi
    cases hi
    have fetched := fetch_of_nil h
    split_ifs with hr
    · rw [if_pos hr] at fetched
      rw [step_of_reset fetched, advance_of_nil (s := s.resetBlock) h]
      simp only [State.resetBlock, h]
      rfl
    · rw [if_neg hr] at fetched
      obtain ⟨u, hu⟩ := exec_answers_next (phaseInstr s.phase (Config.freeInputs s.tick).start s.cfg.variant) s
      obtain ⟨script, tick, -⟩ := exec_keeps_environment hu
      rw [step_of_operation fetched hu, hu, advance_of_nil (script.trans h), tick]

/-- Settles O9: an accessor writes the latch alone, and so does a read of another register. -/
theorem stepRunsTheHostAccess : Obligations.StepRunsTheHostAccess := by
  intro s r rest h
  have accessor : ∀ i u, decode (.accessor r) = .ok i → exec i s = .next u →
      step s = .next { u with script := rest } := by
    intro i u hi hu
    have fetched : fetch s = .operation i := by rw [fetch_of_hostRead h, fetchHostRead, hi]
    obtain ⟨script, -, -⟩ := exec_keeps_environment hu
    rw [step_of_operation fetched hu, advance_of_hostRead (script.trans h)]
  have other : (∀ i, decode (.accessor r) ≠ .ok i) →
      step s = .next { s with script := rest, ret := .register (readRegister r s) } := by
    intro hn
    have fetched : fetch s = .register r := by
      rw [fetch_of_hostRead h, fetchHostRead]
      split
      · next i hi => exact absurd hi (hn i)
      · rfl
    rw [step_of_register fetched, advance_of_hostRead (s := s.deliver (.register (readRegister r s))) h]
    rfl
  refine ⟨accessor, other, ?_⟩
  obtain ⟨hum, temp, fahr⟩ := exec_accessor s
  obtain (⟨-, hr⟩ | ⟨-, hr⟩ | ⟨-, hr⟩) | ⟨-, hr⟩ := decode_accessor_cases r
  · exact ⟨_, accessor _ _ hr hum, rfl⟩
  · exact ⟨_, accessor _ _ hr temp, rfl⟩
  · exact ⟨_, accessor _ _ hr fahr, rfl⟩
  · exact ⟨_, other (fun i hi => by cases hr.symm.trans hi), rfl⟩

end Sys2Proof.Machine
end

section
/-! PROOFS. Everything one tick of the sequencer can do, said once as a relation with a constructor per outcome
(spec/42_sequencer.md R150 to R166; 43_frame_checksum.md R180, R183; 44_variant_decoders.md R190 to R198), and its tie
to the model: it is `exec` of the operation PHASE selects. -/

namespace Sys2Proof.Machine

/-- `TickStep inp s u`: at a tick with the inputs `inp` the operation PHASE selects takes `s` to `u`, before the tick
itself is counted. -/
inductive TickStep (inp : Inputs) (s : State) : State → Prop
  /-- IDLE without a command (R152). -/
  | rest (hp : s.phase = .idle) (hs : inp.start = false) : TickStep inp s s
  /-- The accept step (R150). -/
  | accept (hp : s.phase = .idle) (hs : inp.start = true) (hf : inp.pinFault = false) :
      TickStep inp s { s.clearedForRead.disableGuard.drivePin .low with
        dly := holdPreload s.cfg.tStartLow, phase := .startLow }
  /-- The accept step whose set fails (R150). -/
  | acceptFault (hp : s.phase = .idle) (hs : inp.start = true) (hf : inp.pinFault = true) :
      TickStep inp s ({ s.clearedForRead.disableGuard.drivePin .low with dly := 0#15 }.abortWith .pinFault)
  /-- A hold goes on (R153, R154). -/
  | hold (hp : s.phase = .startLow ∨ s.phase = .startHigh) (hd : s.dly ≠ 0#15) :
      TickStep inp s { s with dly := s.dly - 1#15 }
  /-- START_LOW releases the line (R153). -/
  | release (hp : s.phase = .startLow) (hd : s.dly = 0#15) (hf : inp.pinFault = false) :
      TickStep inp s { s.drivePin .high with dly := holdPreload s.cfg.tStartHigh, phase := .startHigh }
  /-- START_LOW's release fails (R153). -/
  | releaseFault (hp : s.phase = .startLow) (hd : s.dly = 0#15) (hf : inp.pinFault = true) :
      TickStep inp s ((s.drivePin .high).abortWith .pinFault)
  /-- START_HIGH ends (R154). -/
  | listen (hp : s.phase = .startHigh) (hd : s.dly = 0#15) :
      TickStep inp s { s with cnt := 0#8, phase := .ackFall }
  /-- A wait's sample faults (R155). -/
  | sampleFault {target : Level} (hw : waitTarget s.phase = some target) (hf : inp.pinFault = true) :
      TickStep inp s (s.abortWith .pinFault)
  /-- A wait goes on (R155). -/
  | wrongLevel {target : Level} (hw : waitTarget s.phase = some target) (hf : inp.pinFault = false)
      (hl : inp.pinIn ≠ target) (hc : s.cnt ≠ 255#8) : TickStep inp s { s with cnt := s.cnt + 1#8 }
  /-- A wait passes its bound (R155). -/
  | expire {target : Level} (hw : waitTarget s.phase = some target) (hf : inp.pinFault = false)
      (hl : inp.pinIn ≠ target) (hc : s.cnt = 255#8) : TickStep inp s (s.abortWith (expiredKind s.phase))
  /-- An acknowledgement wait sees its level (R156 to R158). -/
  | acknowledged {q : Phase} (ha : between .ackFall .ackEnd s.phase = true) (hq : successors s.phase = [q])
      (hw : waitTarget s.phase = some inp.pinIn) (hf : inp.pinFault = false) :
      TickStep inp s { s with cnt := 0#8, phase := q }
  /-- BIT_LOW sees the line rise (R159). -/
  | rise (hp : s.phase = .bitLow) (hf : inp.pinFault = false) (hl : inp.pinIn = .high) :
      TickStep inp s { s.setPulseLow s.bitIdx.toNat s.cnt with cnt := 0#8, phase := .bitHigh }
  /-- BIT_HIGH sees the line fall, another pair follows (R160). -/
  | fall (hp : s.phase = .bitHigh) (hf : inp.pinFault = false) (hl : inp.pinIn = .low) (hi : s.bitIdx ≠ 39#6) :
      TickStep inp s { s.setPulseHigh s.bitIdx.toNat s.cnt with
        cnt := 0#8, bitIdx := s.bitIdx + 1#6, phase := .bitLow }
  /-- BIT_HIGH sees the line fall after the last pair (R160). -/
  | lastFall (hp : s.phase = .bitHigh) (hf : inp.pinFault = false) (hl : inp.pinIn = .low) (hi : s.bitIdx = 39#6) :
      TickStep inp s { s.setPulseHigh s.bitIdx.toNat s.cnt with
        cnt := 0#8, guard := false, phase := .decideBits }
  /-- DECIDE (R180). -/
  | decideBits (hp : s.phase = .decideBits) :
      TickStep inp s { s with sr := packedBits s.pulse, phase := .check }
  /-- CHECK passes (R183). -/
  | checkPass (hp : s.phase = .check) (hc : checksumOf s.sr = rawByte s.sr 4) :
      TickStep inp s { s with phase := .interp }
  /-- CHECK fails (R183). -/
  | checkFail (hp : s.phase = .check) (hc : checksumOf s.sr ≠ rawByte s.sr 4) :
      TickStep inp s ({ s with ckExp := rawByte s.sr 4, ckCalc := checksumOf s.sr }.abortWith .checksumMismatch)
  /-- INTERP of either variant (R190, R192). -/
  | interp (hp : s.phase = .interp) :
      TickStep inp s { s with
        hTmp := interpHum s.cfg.variant s.sr, tTmp := interpTemp s.cfg.variant s.sr, phase := .range }
  /-- RANGE passes (R196). -/
  | rangePass (hp : s.phase = .range) (hh : s.hTmp.toNat ≤ 1000) : TickStep inp s { s with phase := .success }
  /-- RANGE rejects (R196). -/
  | rangeFail (hp : s.phase = .range) (hh : 1000 < s.hTmp.toNat) : TickStep inp s (s.abortWith .invalidData)
  /-- SUCCESS (R198). -/
  | success (hp : s.phase = .success) :
      TickStep inp s { s with hum := s.hTmp, temp := s.tTmp, code := .ok, phase := .idle }

/-! ## The waiting phases, in one form -/

/-- What a waiting phase does once its level is seen (R156 to R160). -/
def levelSeen (s : State) : State :=
  match s.phase with
  | .ackFall => { s with cnt := 0#8, phase := .ackRise }
  | .ackRise => { s with cnt := 0#8, phase := .ackEnd }
  | .ackEnd => { s with cnt := 0#8, phase := .bitLow }
  | .bitLow => { s.setPulseLow s.bitIdx.toNat s.cnt with cnt := 0#8, phase := .bitHigh }
  | .bitHigh =>
    if s.bitIdx = 39#6 then
      { s.setPulseHigh s.bitIdx.toNat s.cnt with cnt := 0#8, guard := false, phase := .decideBits }
    else { s.setPulseHigh s.bitIdx.toNat s.cnt with cnt := 0#8, bitIdx := s.bitIdx + 1#6, phase := .bitLow }
  | _ => s

/-- The acknowledgement phases by name (R156 to R158). -/
theorem ack_cases {p : Phase} (h : between .ackFall .ackEnd p = true) :
    p = .ackFall ∨ p = .ackRise ∨ p = .ackEnd := by
  revert h; cases p <;> decide

theorem levelSeen_of_ack {s : State} {q : Phase} (ha : between .ackFall .ackEnd s.phase = true)
    (hq : successors s.phase = [q]) : levelSeen s = { s with cnt := 0#8, phase := q } := by
  obtain hp | hp | hp := ack_cases ha <;> (rw [hp] at hq; cases hq; simp only [levelSeen, hp])

theorem levelSeen_of_bitLow {s : State} (hp : s.phase = .bitLow) :
    levelSeen s = { s.setPulseLow s.bitIdx.toNat s.cnt with cnt := 0#8, phase := .bitHigh } := by
  simp only [levelSeen, hp]

theorem levelSeen_of_bitHigh {s : State} (hp : s.phase = .bitHigh) :
    levelSeen s = if s.bitIdx = 39#6 then
      { s.setPulseHigh s.bitIdx.toNat s.cnt with cnt := 0#8, guard := false, phase := .decideBits }
    else { s.setPulseHigh s.bitIdx.toNat s.cnt with cnt := 0#8, bitIdx := s.bitIdx + 1#6, phase := .bitLow } := by
  simp only [levelSeen, hp]

/-- A phase with a target is one of the five waiting phases. -/
theorem waitTarget_eq_some_cases {p : Phase} {target : Level} (h : waitTarget p = some target) :
    (p = .ackFall ∧ target = .low) ∨ (p = .ackRise ∧ target = .high) ∨ (p = .ackEnd ∧ target = .low) ∨
    (p = .bitLow ∧ target = .high) ∨ (p = .bitHigh ∧ target = .low) := by
  revert h; cases p <;> cases target <;> decide

/-- A waiting phase's operation is the common form of the five, with its own action on Done (R155 to R160). -/
theorem exec_waiting_eq_waitPhase {s : State} {target : Level} (h : waitTarget s.phase = some target) (start : Bool)
    (v : Variant) : ∃ onDone, exec (phaseInstr s.phase start v) s =
      .next (waitPhase target (expiredKind s.phase) onDone s) ∧ onDone s.cnt { s with cnt := 0#8 } = levelSeen s := by
  obtain ⟨hp, rfl⟩ | ⟨hp, rfl⟩ | ⟨hp, rfl⟩ | ⟨hp, rfl⟩ | ⟨hp, rfl⟩ := waitTarget_eq_some_cases h
  · exact ⟨_, by rw [hp]; rfl, (levelSeen_of_ack (by rw [hp]; rfl) (by rw [hp]; rfl)).symm⟩
  · exact ⟨_, by rw [hp]; rfl, (levelSeen_of_ack (by rw [hp]; rfl) (by rw [hp]; rfl)).symm⟩
  · exact ⟨_, by rw [hp]; rfl, (levelSeen_of_ack (by rw [hp]; rfl) (by rw [hp]; rfl)).symm⟩
  · exact ⟨_, by rw [hp]; rfl, (levelSeen_of_bitLow hp).symm⟩
  · exact ⟨_, by rw [hp]; rfl, (levelSeen_of_bitHigh hp).symm⟩

/-- A waiting phase's operation, outcome by outcome (R155). -/
theorem exec_waiting {s : State} {target : Level} (h : waitTarget s.phase = some target) (start : Bool) (v : Variant) :
    exec (phaseInstr s.phase start v) s = .next (
      if s.inputs.pinFault = true then s.abortWith .pinFault
      else if s.inputs.pinIn = target then levelSeen s
      else if s.cnt = 255#8 then s.abortWith (expiredKind s.phase) else { s with cnt := s.cnt + 1#8 }) := by
  obtain ⟨onDone, hx, hd⟩ := exec_waiting_eq_waitPhase h start v
  rw [hx, waitPhase_eq, hd]

/-- A level seen in a waiting phase is one of four outcomes of the tick. -/
theorem TickStep.of_levelSeen {inp : Inputs} {s : State} (hw : waitTarget s.phase = some inp.pinIn)
    (hf : inp.pinFault = false) : TickStep inp s (levelSeen s) := by
  have ack : ∀ q, between .ackFall .ackEnd s.phase = true → successors s.phase = [q] →
      TickStep inp s (levelSeen s) := fun q ha hq => levelSeen_of_ack ha hq ▸ .acknowledged ha hq hw hf
  obtain ⟨hp, hl⟩ | ⟨hp, hl⟩ | ⟨hp, hl⟩ | ⟨hp, hl⟩ | ⟨hp, hl⟩ := waitTarget_eq_some_cases hw
  · exact ack .ackRise (by rw [hp]; rfl) (by rw [hp]; rfl)
  · exact ack .ackEnd (by rw [hp]; rfl) (by rw [hp]; rfl)
  · exact ack .bitLow (by rw [hp]; rfl) (by rw [hp]; rfl)
  · exact levelSeen_of_bitLow hp ▸ .rise hp hf hl
  · rw [levelSeen_of_bitHigh hp]
    split_ifs with hi
    · exact .lastFall hp hf hl hi
    · exact .fall hp hf hl hi

/-! ## The relation is the model's operation -/

/-- The operation PHASE selects does one of the things the relation lists. -/
theorem exec_phaseInstr (s : State) : ∃ u, TickStep s.inputs s u ∧
    exec (phaseInstr s.phase s.inputs.start s.cfg.variant) s = .next u := by
  have waiting : ∀ target, waitTarget s.phase = some target → ∃ u, TickStep s.inputs s u ∧
      exec (phaseInstr s.phase s.inputs.start s.cfg.variant) s = .next u := by
    intro target hw
    refine ⟨_, ?_, exec_waiting hw _ _⟩
    split_ifs with hf hl hc
    · exact .sampleFault hw hf
    · exact .of_levelSeen (by rw [hw, hl]) (by simpa using hf)
    · exact .expire hw (by simpa using hf) hl hc
    · exact .wrongLevel hw (by simpa using hf) hl hc
  cases hp : s.phase with
  | idle =>
    cases hs : s.inputs.start with
    | false => exact ⟨s, .rest hp hs, rfl⟩
    | true =>
      refine ⟨_, ?_, exec_read s⟩
      rw [acceptRead_eq]
      split_ifs with hf
      · exact .acceptFault hp hs hf
      · exact .accept hp hs (by simpa using hf)
  | startLow =>
    refine ⟨_, ?_, exec_startLow s⟩
    split_ifs with hd hf
    · exact .releaseFault hp hd hf
    · exact .release hp hd (by simpa using hf)
    · exact .hold (.inl hp) hd
  | startHigh =>
    refine ⟨_, ?_, exec_startHigh s⟩
    split_ifs with hd
    · exact .listen hp hd
    · exact .hold (.inr hp) hd
  | ackFall => exact hp ▸ waiting .low (by rw [hp]; rfl)
  | ackRise => exact hp ▸ waiting .high (by rw [hp]; rfl)
  | ackEnd => exact hp ▸ waiting .low (by rw [hp]; rfl)
  | bitLow => exact hp ▸ waiting .high (by rw [hp]; rfl)
  | bitHigh => exact hp ▸ waiting .low (by rw [hp]; rfl)
  | decideBits => exact ⟨_, .decideBits hp, rfl⟩
  | check =>
    refine ⟨_, ?_, rfl⟩
    split_ifs with hc
    · exact .checkPass hp hc
    · exact .checkFail hp hc
  | interp =>
    refine ⟨_, .interp hp, ?_⟩
    cases s.cfg.variant <;> rfl
  | range =>
    refine ⟨_, ?_, execRange_eq s⟩
    split_ifs with hh
    · exact .rangeFail hp hh
    · exact .rangePass hp (Nat.le_of_not_lt hh)
  | success => exact ⟨_, .success hp, rfl⟩

/-- What the relation lists is what the operation does. -/
theorem TickStep.exec_eq {s u : State} (h : TickStep s.inputs s u) :
    exec (phaseInstr s.phase s.inputs.start s.cfg.variant) s = .next u := by
  have selects : ∀ {p}, s.phase = p → exec (phaseInstr s.phase s.inputs.start s.cfg.variant) s =
      exec (phaseInstr p s.inputs.start s.cfg.variant) s := fun hp => by rw [hp]
  cases h with
  | rest hp hs => rw [selects hp, hs]; rfl
  | accept hp hs hf => rw [selects hp, hs]; exact congrArg _ ((acceptRead_eq s).trans (if_neg (by simp [hf])))
  | acceptFault hp hs hf => rw [selects hp, hs]; exact congrArg _ ((acceptRead_eq s).trans (if_pos hf))
  | hold hp hd =>
    obtain hp | hp := hp
    · exact (selects hp).trans ((exec_startLow s).trans (by rw [if_neg hd]))
    · exact (selects hp).trans ((exec_startHigh s).trans (by rw [if_neg hd]))
  | release hp hd hf => exact (selects hp).trans ((exec_startLow s).trans (by rw [if_pos hd, if_neg (by simp [hf])]))
  | releaseFault hp hd hf => exact (selects hp).trans ((exec_startLow s).trans (by rw [if_pos hd, if_pos hf]))
  | listen hp hd => exact (selects hp).trans ((exec_startHigh s).trans (by rw [if_pos hd]))
  | sampleFault hw hf => rw [exec_waiting hw, if_pos hf]
  | wrongLevel hw hf hl hc => rw [exec_waiting hw, if_neg (by simp [hf]), if_neg hl, if_neg hc]
  | expire hw hf hl hc => rw [exec_waiting hw, if_neg (by simp [hf]), if_neg hl, if_pos hc]
  | acknowledged ha hq hw hf => rw [exec_waiting hw, if_neg (by simp [hf]), if_pos rfl, levelSeen_of_ack ha hq]
  | rise hp hf hl =>
    rw [exec_waiting (by rw [hp]; rfl), if_neg (by simp [hf]), if_pos hl, levelSeen_of_bitLow hp]
  | fall hp hf hl hi =>
    rw [exec_waiting (by rw [hp]; rfl), if_neg (by simp [hf]), if_pos hl, levelSeen_of_bitHigh hp, if_neg hi]
  | lastFall hp hf hl hi =>
    rw [exec_waiting (by rw [hp]; rfl), if_neg (by simp [hf]), if_pos hl, levelSeen_of_bitHigh hp, if_pos hi]
  | decideBits hp => exact selects hp
  | checkPass hp hc => exact (selects hp).trans (congrArg Host.Outcome.next (if_pos hc))
  | checkFail hp hc => exact (selects hp).trans (congrArg Host.Outcome.next (if_neg hc))
  | interp hp => rw [selects hp]; cases s.cfg.variant <;> rfl
  | rangePass hp hh => exact (selects hp).trans ((execRange_eq s).trans (by rw [if_neg (Nat.not_lt.2 hh)]))
  | rangeFail hp hh => exact (selects hp).trans ((execRange_eq s).trans (by rw [if_pos hh]))
  | success hp => exact selects hp

/-- A scripted tick without reset is a `TickStep`, and then the tick has passed. -/
theorem TickStep.step_eq {s u : State} {inp : Inputs} {rest : List Event} (h : s.script = .tick inp :: rest)
    (hr : inp.rst = false) (hu : TickStep inp s u) :
    step s = .next { u with script := rest, tick := s.tick + 1 } := by
  have hi := inputs_of_tick h
  refine step_of_tick h hr ?_
  rw [← hi] at hu ⊢
  exact hu.exec_eq

/-- At every state and all inputs some outcome of the tick is there. -/
theorem tickStep_of_tick {s : State} {inp : Inputs} {rest : List Event} (h : s.script = .tick inp :: rest) :
    ∃ u, TickStep inp s u := by
  obtain ⟨u, hu, -⟩ := exec_phaseInstr s
  exact ⟨u, inputs_of_tick h ▸ hu⟩

/-- What a step at a scripted tick without reset answers is a `TickStep`'s outcome. -/
theorem tickStep_of_step {s t : State} {inp : Inputs} {rest : List Event} (h : s.script = .tick inp :: rest)
    (hr : inp.rst = false) (ht : step s = .next t) :
    ∃ u, TickStep inp s u ∧ t = { u with script := rest, tick := s.tick + 1 } := by
  obtain ⟨u, hu⟩ := tickStep_of_tick h
  have := ht.symm.trans (hu.step_eq h hr)
  exact ⟨u, hu, by injection this⟩

/-- Everything a step can do: a reset, a write of the latch alone, or one of the tick's outcomes. -/
theorem step_outcomes {s t : State} (h : step s = .next t) :
    t = s.resetBlock.advance ∨ (∃ r, t = (s.deliver r).advance) ∨ (∃ u, TickStep s.inputs s u ∧ t = u.advance) := by
  obtain rfl | ⟨r, rfl⟩ | ⟨u, hu, rfl⟩ := step_kinds h
  · exact .inl rfl
  · exact .inr (.inl ⟨r, rfl⟩)
  · obtain ⟨v, hv, hx⟩ := exec_phaseInstr s
    cases hu.symm.trans hx
    exact .inr (.inr ⟨u, hv, rfl⟩)

/-- What a tick does, does not depend on the events after it. -/
theorem TickStep.withScript {s u : State} {inp : Inputs} (h : TickStep inp s u) (l : List Event) :
    TickStep inp { s with script := l } { u with script := l } := by
  cases h with
  | rest hp hs => exact .rest hp hs
  | accept hp hs hf => exact .accept hp hs hf
  | acceptFault hp hs hf => exact .acceptFault hp hs hf
  | hold hp hd => exact .hold hp hd
  | release hp hd hf => exact .release hp hd hf
  | releaseFault hp hd hf => exact .releaseFault hp hd hf
  | listen hp hd => exact .listen hp hd
  | sampleFault hw hf => exact .sampleFault (s := { s with script := l }) hw hf
  | wrongLevel hw hf hl hc => exact .wrongLevel (s := { s with script := l }) hw hf hl hc
  | expire hw hf hl hc => exact .expire (s := { s with script := l }) hw hf hl hc
  | acknowledged ha hq hw hf => exact .acknowledged (s := { s with script := l }) ha hq hw hf
  | rise hp hf hl => exact .rise hp hf hl
  | fall hp hf hl hi => exact .fall hp hf hl hi
  | lastFall hp hf hl hi => exact .lastFall hp hf hl hi
  | decideBits hp => exact .decideBits hp
  | checkPass hp hc => exact .checkPass hp hc
  | checkFail hp hc => exact .checkFail hp hc
  | interp hp => exact .interp hp
  | rangePass hp hh => exact .rangePass hp hh
  | rangeFail hp hh => exact .rangeFail hp hh
  | success hp => exact .success hp

/-- Two ticks with the same outcome in place of each other are the same step. -/
theorem step_replace_tick {s : State} {inp inp' : Inputs} {rest : List Event} (h : s.script = .tick inp :: rest)
    (hr : inp.rst = false) (hr' : inp'.rst = false) (same : ∀ u, TickStep inp s u → TickStep inp' s u) :
    ∃ t, step s = .next t ∧ step { s with script := .tick inp' :: rest } = .next t := by
  obtain ⟨u, hu⟩ := tickStep_of_tick h
  have replaced := ((same u hu).withScript (.tick inp' :: rest)).step_eq rfl hr'
  exact ⟨_, hu.step_eq h hr, replaced⟩

/-- Two ticks with `rst` in place of each other are the same step. -/
theorem step_replace_reset {s : State} {inp inp' : Inputs} {rest : List Event} (h : s.script = .tick inp :: rest)
    (hr : inp.rst = true) (hr' : inp'.rst = true) :
    ∃ t, step s = .next t ∧ step { s with script := .tick inp' :: rest } = .next t := by
  obtain ⟨-, ht⟩ := resetTickRestoresEveryRegister s inp rest h hr
  obtain ⟨-, ht'⟩ := resetTickRestoresEveryRegister { s with script := .tick inp' :: rest } inp' rest rfl hr'
  exact ⟨_, ht, ht'⟩

end Sys2Proof.Machine
end

section
/-! PROOFS. The state invariant of spec/10_state.md R52: it holds at reset, and every step keeps it. The states after
a step are of three kinds: an idle block with an outcome recorded, a hold of the handshake, and a later phase of a
read. -/

namespace Sys2Proof.Machine

/-! ## The invariant, idle and busy -/

/-- Nothing is recorded yet: CODE is NONE, and the result registers are clear (R52). -/
def NoResult (s : State) : Prop :=
  s.code = .none ∧ s.hum = 0#16 ∧ s.temp = 0#16 ∧ s.ckExp = 0#8 ∧ s.ckCalc = 0#8

/-- What GUARD holds in a state of a run: 1 exactly in START_LOW to BIT_HIGH of a real guard (41_interrupt_guard.md
R143, R144). -/
def guardHeld (c : Config) (p : Phase) : Bool := decide (c.guardImpl = .real) && between .startLow .bitHigh p

theorem Inv.noResult {s : State} (h : Inv s) (busy : s.phase ≠ .idle) : NoResult s := by
  have code := h.code_none busy
  obtain ⟨hum, temp⟩ := h.reading_zero (by simp [code])
  obtain ⟨ckExp, ckCalc⟩ := h.cksum_zero (by simp [code])
  exact ⟨code, hum, temp, ckExp, ckCalc⟩

theorem Inv.guard_eq {s : State} (h : Inv s) : s.guard = guardHeld s.cfg s.phase := by
  unfold guardHeld
  cases hi : s.cfg.guardImpl with
  | noop => simp [h.guard_noop hi]
  | real =>
    cases hb : between .startLow .bitHigh s.phase with
    | true => simp [h.guard_real hi hb]
    | false =>
      have : s.guard ≠ true := fun hg => by simp [h.guard_only hg] at hb
      simpa using this

/-- A range of phases that does not hold the given one. -/
theorem not_between {a b p q : Phase} {P : Prop} (hp : p = q) (hn : between a b q = false) :
    between a b p = true → P := by
  intro h
  rw [hp, hn] at h
  cases h

/-- In an idle block the invariant is about the result alone. -/
theorem Inv.of_idle {s : State} (hp : s.phase = .idle) (hb : s.bitIdx.toNat ≤ 39) (hg : s.guard = false)
    (hok : s.code = .ok → s.hum.toNat ≤ 1000) (hr : s.code ≠ .ok → s.hum = 0#16 ∧ s.temp = 0#16)
    (hck : s.code ≠ .checksumMismatch → s.ckExp = 0#8 ∧ s.ckCalc = 0#8)
    (hne : s.code = .checksumMismatch → s.ckExp ≠ s.ckCalc) : Inv s := by
  exact {
    bitIdx_le := hb
    bitIdx_zero := not_between hp rfl
    dly_zero := not_between hp rfl
    guard_noop := fun _ => hg
    guard_only := fun h => by rw [hg] at h; cases h
    guard_real := fun _ => not_between hp rfl
    code_none := fun h => absurd hp h
    hum_le := hok
    reading_zero := hr
    cksum_zero := hck
    cksum_ne := hne
    pin_high := not_between hp rfl
    pin_low := fun h => by rw [hp] at h; cases h
    dly_low := fun h => by rw [hp] at h; cases h
    dly_high := fun h => by rw [hp] at h; cases h
    hTmp_le := fun h => by rw [hp] at h; cases h }

/-- In a busy block nothing is recorded, and GUARD and PIN_OUT follow PHASE. -/
theorem Inv.of_busy {s : State} (hn : NoResult s) (hg : s.guard = guardHeld s.cfg s.phase)
    (hb : s.bitIdx.toNat ≤ 39) (hb0 : between .startLow .ackEnd s.phase = true → s.bitIdx = 0#6)
    (hd : between .ackFall .success s.phase = true → s.dly = 0#15)
    (hl : s.phase = .startLow → s.pinOut = .low ∧ s.dly.toNat < s.cfg.tStartLow.ticks)
    (hh : s.phase = .startHigh → s.dly.toNat < s.cfg.tStartHigh.ticks)
    (hpin : between .startHigh .success s.phase = true → s.pinOut = .high)
    (ht : s.phase = .success → s.hTmp.toNat ≤ 1000) : Inv s := by
  obtain ⟨code, hum, temp, ckExp, ckCalc⟩ := hn
  exact {
    bitIdx_le := hb
    bitIdx_zero := hb0
    dly_zero := hd
    guard_noop := fun h => by rw [hg, guardHeld, h]; rfl
    guard_only := fun h => by rw [hg, guardHeld, Bool.and_eq_true] at h; exact h.2
    guard_real := fun h h' => by rw [hg, guardHeld, h, h']; rfl
    code_none := fun _ => code
    hum_le := fun h => by rw [code] at h; cases h
    reading_zero := fun _ => ⟨hum, temp⟩
    cksum_zero := fun _ => ⟨ckExp, ckCalc⟩
    cksum_ne := fun h => by rw [code] at h; cases h
    pin_high := hpin
    pin_low := fun h => (hl h).1
    dly_low := fun h => (hl h).2
    dly_high := hh
    hTmp_le := ht }

/-! ## What keeps it -/

/-- The script and the tick number play no part. -/
theorem Inv.advance {s : State} (h : Inv s) : Inv s.advance := by
  unfold State.advance
  split <;> exact { h with }

/-- The latch plays no part. -/
theorem Inv.deliver {s : State} (h : Inv s) (r : Returned) : Inv (s.deliver r) := { h with }

theorem inv_resetBlock (s : State) : Inv s.resetBlock :=
  .of_idle rfl (Nat.zero_le _) rfl (fun h => nomatch h) (fun _ => ⟨rfl, rfl⟩) (fun _ => ⟨rfl, rfl⟩) (fun h => nomatch h)

/-- An error kind is recorded as an outcome of its own (60_exceptions.md R211 to R215). -/
theorem errorCode_ne_none (e : ErrorKind) : e.code ≠ .none := by cases e <;> decide

/-- No error kind is recorded as OK. -/
theorem errorCode_ne_ok (e : ErrorKind) : e.code ≠ .ok := by cases e <;> decide

/-- The error exit from a read, but for CHECKSUM_MISMATCH. -/
theorem inv_abortWith {s : State} {e : ErrorKind} (hb : s.bitIdx.toNat ≤ 39) (hn : NoResult s)
    (he : e ≠ .checksumMismatch) : Inv (s.abortWith e) := by
  obtain ⟨-, hum, temp, ckExp, ckCalc⟩ := hn
  have other : e.code ≠ .checksumMismatch := by revert he; cases e <;> decide
  exact .of_idle rfl hb rfl (fun h => absurd h (errorCode_ne_ok e)) (fun _ => ⟨hum, temp⟩) (fun _ => ⟨ckExp, ckCalc⟩)
    (fun h => absurd h other)

/-- From the end of the holds on, DLY and PIN_OUT stay, and only BITIDX, GUARD, PHASE and the data move. -/
theorem Inv.later {s t : State} {p : Phase} (h : Inv s) (hp : s.phase = p) (hs : between .ackFall .success p = true)
    (hu : between .ackFall .success t.phase = true)
    (same : t.code = s.code ∧ t.hum = s.hum ∧ t.temp = s.temp ∧ t.ckExp = s.ckExp ∧ t.ckCalc = s.ckCalc ∧
      t.dly = s.dly ∧ t.pinOut = s.pinOut)
    (hg : t.guard = guardHeld t.cfg t.phase) (hb : t.bitIdx.toNat ≤ 39)
    (hb0 : between .startLow .ackEnd t.phase = true → t.bitIdx = 0#6)
    (ht : t.phase = .success → t.hTmp.toNat ≤ 1000) : Inv t := by
  obtain ⟨code, hum, temp, ckExp, ckCalc, dly, pin⟩ := same
  have released : p ≠ .idle ∧ between .startHigh .success p = true := by revert hs; cases p <;> decide
  obtain ⟨code', hum', temp', ckExp', ckCalc'⟩ := h.noResult (hp ▸ released.1)
  have notHold : ∀ {q}, between .ackFall .success q = false → t.phase = q → False := by
    intro q hq e
    rw [e, hq] at hu
    cases hu
  exact .of_busy
    ⟨code.trans code', hum.trans hum', temp.trans temp', ckExp.trans ckExp', ckCalc.trans ckCalc'⟩ hg hb hb0
    (fun _ => dly.trans (h.dly_zero (hp ▸ hs))) (fun e => (notHold rfl e).elim) (fun e => (notHold rfl e).elim)
    (fun _ => pin.trans (h.pin_high (hp ▸ released.2))) ht

/-- A waiting phase is busy. -/
theorem ne_idle_of_waiting {p : Phase} {target : Level} (h : waitTarget p = some target) : p ≠ .idle := by
  rintro rfl
  cases h

theorem holdPreload_lt (t : HoldTicks) : (holdPreload t).toNat < t.ticks := by
  have := t.legal
  rw [holdPreload_toNat]
  omega

/-- A hold's count goes down by one (40_pulse_timer.md R126). -/
theorem toNat_dly_sub_one {d : BitVec 15} (h : d ≠ 0#15) : (d - 1#15).toNat = d.toNat - 1 ∧ 0 < d.toNat := by
  have : d.toNat ≠ 0 := fun e => h (BitVec.eq_of_toNat_eq e)
  constructor <;> bv_omega

/-- The accept step meets the invariant from any state, whatever came before (R51, R150). -/
theorem inv_of_accept (s : State) : Inv { s.clearedForRead.disableGuard.drivePin .low with
    dly := holdPreload s.cfg.tStartLow, phase := .startLow } :=
  .of_busy ⟨rfl, rfl, rfl, rfl, rfl⟩ (Bool.and_true _).symm (Nat.zero_le _) (fun _ => rfl) (not_between rfl rfl)
    (fun _ => ⟨rfl, holdPreload_lt _⟩) (fun h => nomatch h) (not_between rfl rfl) (fun h => nomatch h)

/-- So does a failed accept step. -/
theorem inv_of_acceptFault (s : State) :
    Inv ({ s.clearedForRead.disableGuard.drivePin .low with dly := 0#15 }.abortWith .pinFault) :=
  inv_abortWith (Nat.zero_le _) ⟨rfl, rfl, rfl, rfl, rfl⟩ (by decide)

/-- The number of a pair that is not the last has a successor (42_sequencer.md R160). -/
theorem toNat_bitIdx_add_one {b : BitVec 6} (hb : b.toNat ≤ 39) (hi : b ≠ 39#6) :
    (b + 1#6).toNat = b.toNat + 1 ∧ b.toNat < 39 := by
  have : b.toNat ≠ 39 := fun e => hi (BitVec.eq_of_toNat_eq e)
  constructor <;> bv_omega

/-- Every outcome of a tick keeps the invariant. -/
theorem Inv.tickStep {inp : Inputs} {s u : State} (h : Inv s) (hu : TickStep inp s u) : Inv u := by
  have busy : ∀ {p}, s.phase = p → p ≠ .idle → s.phase ≠ .idle := fun hp hn => hp ▸ hn
  have guard : ∀ {p q}, s.phase = p → between .startLow .bitHigh p = between .startLow .bitHigh q →
      s.guard = guardHeld s.cfg q := by
    intro p q hp hq
    rw [h.guard_eq, guardHeld, guardHeld, hp, hq]
  have abort : ∀ {p} (e : ErrorKind), s.phase = p → p ≠ .idle → e ≠ .checksumMismatch → Inv (s.abortWith e) :=
    fun e hp hn he => inv_abortWith h.bitIdx_le (h.noResult (busy hp hn)) he
  cases hu with
  | rest hp hs => exact h
  | accept hp hs hf => exact inv_of_accept s
  | acceptFault hp hs hf => exact inv_of_acceptFault s
  | hold hp hd =>
    obtain ⟨pred, -⟩ := toNat_dly_sub_one hd
    refine { h with
      dly_zero := fun hb => absurd (h.dly_zero hb) hd
      dly_low := fun e => ?_
      dly_high := fun e => ?_ }
    · exact (pred.trans_le (Nat.sub_le _ _)).trans_lt (h.dly_low e)
    · exact (pred.trans_le (Nat.sub_le _ _)).trans_lt (h.dly_high e)
  | release hp hd hf =>
    exact .of_busy (h.noResult (busy hp (by decide))) (guard hp rfl) h.bitIdx_le
      (fun _ => h.bitIdx_zero (by rw [hp]; rfl)) (not_between rfl rfl) (fun e => nomatch e)
      (fun _ => holdPreload_lt _) (fun _ => rfl) (fun e => nomatch e)
  | releaseFault hp hd hf =>
    exact inv_abortWith h.bitIdx_le (h.noResult (busy hp (by decide))) (by decide)
  | listen hp hd =>
    exact .of_busy (h.noResult (busy hp (by decide))) (guard hp rfl) h.bitIdx_le
      (fun _ => h.bitIdx_zero (by rw [hp]; rfl)) (fun _ => hd) (fun e => nomatch e) (fun e => nomatch e)
      (fun _ => h.pin_high (by rw [hp]; rfl)) (fun e => nomatch e)
  | sampleFault hw hf => exact abort .pinFault rfl (ne_idle_of_waiting hw) (by decide)
  | wrongLevel hw hf hl hc => exact { h with }
  | expire hw hf hl hc =>
    refine abort _ rfl (ne_idle_of_waiting hw) ?_
    unfold expiredKind
    split <;> decide
  | acknowledged ha hq hw hf =>
    obtain hp | hp | hp := ack_cases ha <;> rw [hp] at hq <;> cases hq <;>
      exact h.later hp rfl rfl ⟨rfl, rfl, rfl, rfl, rfl, rfl, rfl⟩
        (guard hp rfl) h.bitIdx_le (fun _ => h.bitIdx_zero (by rw [hp]; rfl)) (fun e => nomatch e)
  | rise hp hf hl =>
    exact h.later hp rfl rfl ⟨rfl, rfl, rfl, rfl, rfl, rfl, rfl⟩
      (guard hp rfl) h.bitIdx_le (not_between rfl rfl) (fun e => nomatch e)
  | fall hp hf hl hi =>
    obtain ⟨succ, lt⟩ := toNat_bitIdx_add_one h.bitIdx_le hi
    exact h.later hp rfl rfl ⟨rfl, rfl, rfl, rfl, rfl, rfl, rfl⟩
      (guard hp rfl) (succ.trans_le lt) (not_between rfl rfl) (fun e => nomatch e)
  | lastFall hp hf hl hi =>
    exact h.later hp rfl rfl ⟨rfl, rfl, rfl, rfl, rfl, rfl, rfl⟩
      (Bool.and_false _).symm h.bitIdx_le (not_between rfl rfl) (fun e => nomatch e)
  | decideBits hp =>
    exact h.later hp rfl rfl ⟨rfl, rfl, rfl, rfl, rfl, rfl, rfl⟩
      (guard hp rfl) h.bitIdx_le (not_between rfl rfl) (fun e => nomatch e)
  | checkPass hp hc =>
    exact h.later hp rfl rfl ⟨rfl, rfl, rfl, rfl, rfl, rfl, rfl⟩
      (guard hp rfl) h.bitIdx_le (not_between rfl rfl) (fun e => nomatch e)
  | checkFail hp hc =>
    obtain ⟨-, hum, temp, -, -⟩ := h.noResult (busy hp (by decide))
    exact .of_idle rfl h.bitIdx_le rfl (fun e => nomatch e) (fun _ => ⟨hum, temp⟩) (fun e => absurd rfl e)
      (fun _ => Ne.symm hc)
  | interp hp =>
    exact h.later hp rfl rfl ⟨rfl, rfl, rfl, rfl, rfl, rfl, rfl⟩
      (guard hp rfl) h.bitIdx_le (not_between rfl rfl) (fun e => nomatch e)
  | rangePass hp hh =>
    exact h.later hp rfl rfl ⟨rfl, rfl, rfl, rfl, rfl, rfl, rfl⟩
      (guard hp rfl) h.bitIdx_le (not_between rfl rfl) (fun _ => hh)
  | rangeFail hp hh => exact abort .invalidData hp (by decide) (by decide)
  | success hp =>
    obtain ⟨-, -, -, ckExp, ckCalc⟩ := h.noResult (busy hp (by decide))
    have free : s.guard = false := by rw [h.guard_eq, guardHeld, hp]; exact Bool.and_false _
    exact .of_idle rfl h.bitIdx_le free (fun _ => h.hTmp_le hp) (fun e => absurd rfl e)
      (fun _ => ⟨ckExp, ckCalc⟩) (fun e => nomatch e)

/-- Settles O4: a reset gives the reset values, a host access writes the latch alone, and every outcome of a tick
keeps the invariant. -/
theorem stepKeepsTheStateInvariant : Obligations.StepKeepsTheStateInvariant := by
  intro s t h ht
  obtain rfl | ⟨r, rfl⟩ | ⟨u, hu, rfl⟩ := step_outcomes ht
  · exact (inv_resetBlock s).advance
  · exact (h.deliver r).advance
  · exact (h.tickStep hu).advance

/-- Settles O41: the guard's three clauses of the invariant, read as one equation. -/
theorem guardIsHeldExactlyFromStartToLastPair : Obligations.GuardIsHeldExactlyFromStartToLastPair :=
  fun s t h ht => (stepKeepsTheStateInvariant s t h ht).guard_eq

end Sys2Proof.Machine
end

section
/-! PROOFS. The data invariant: what SR, the temporaries and the pulse buffer hold along a transaction, part by part of
the phase sequence, and that every step keeps it (spec/20_memory.md R61; 42_sequencer.md R161;
43_frame_checksum.md R180, R186; 44_variant_decoders.md R198). -/

namespace Sys2Proof.Machine

/-! ## The invariant, part by part of the phase sequence -/

/-- In an idle block the data invariant is about the Reading alone. -/
theorem DataInv.of_idle {s : State} (hp : s.phase = .idle)
    (reading : s.code = .ok → s.bitIdx = 39#6 ∧ s.sr = packedBits s.pulse ∧ checksumOf s.sr = rawByte s.sr 4 ∧
      s.hum = interpHum s.cfg.variant s.sr ∧ s.temp = interpTemp s.cfg.variant s.sr) : DataInv s where
  sr_zero := not_between hp rfl
  tmp_zero := not_between hp rfl
  pulses_ack := not_between hp rfl
  pulses_low := fun e => by rw [hp] at e; cases e
  pulses_high := fun e => by rw [hp] at e; cases e
  pulse_open := fun e => by rw [hp] at e; cases e
  bitIdx_end := not_between hp rfl
  sr_packed := not_between hp rfl
  checksum_ok := not_between hp rfl
  tmp_values := not_between hp rfl
  reading := reading

/-- From START_LOW to ACK_END nothing has been captured (R61, R161). -/
theorem DataInv.of_handshake {s : State} {p : Phase} (hp : s.phase = p) (part : between .startLow .ackEnd p = true)
    (hc : s.code = .none) (sr : s.sr = 0#40) (tmp : s.hTmp = 0#16 ∧ s.tTmp = 0#16) (pulse : s.pulse = clearedPulses) :
    DataInv s := by
  have before : ∀ q, between .startLow .ackEnd q = true → q ≠ .bitLow ∧ q ≠ .bitHigh ∧
      between .decideBits .success q = false ∧ between .check .success q = false ∧
      between .interp .success q = false ∧ between .range .success q = false := by
    intro q; cases q <;> decide
  obtain ⟨hl, hh, hd, hk, hi, hr⟩ := before p part
  exact {
    sr_zero := fun _ => sr
    tmp_zero := fun _ => tmp
    pulses_ack := fun _ => pulse
    pulses_low := fun e => absurd (hp.symm.trans e) hl
    pulses_high := fun e => absurd (hp.symm.trans e) hh
    pulse_open := fun e => absurd (hp.symm.trans e) hh
    bitIdx_end := not_between hp hd
    sr_packed := not_between hp hk
    checksum_ok := not_between hp hi
    tmp_values := not_between hp hr
    reading := fun e => by rw [hc] at e; cases e }

/-- In BIT_LOW the pairs from BITIDX on are still clear (R61). -/
theorem DataInv.of_bitLow {s : State} (hp : s.phase = .bitLow) (hc : s.code = .none) (sr : s.sr = 0#40)
    (tmp : s.hTmp = 0#16 ∧ s.tTmp = 0#16)
    (pulses : ∀ i, s.bitIdx.toNat ≤ i → i < 40 → s.pulseAt i = ⟨0#8, 0#8⟩) : DataInv s where
  sr_zero := fun _ => sr
  tmp_zero := fun _ => tmp
  pulses_ack := not_between hp rfl
  pulses_low := fun _ => pulses
  pulses_high := fun e => by rw [hp] at e; cases e
  pulse_open := fun e => by rw [hp] at e; cases e
  bitIdx_end := not_between hp rfl
  sr_packed := not_between hp rfl
  checksum_ok := not_between hp rfl
  tmp_values := not_between hp rfl
  reading := fun e => by rw [hc] at e; cases e

/-- In BIT_HIGH the pairs after BITIDX are still clear, and so is the high count of BITIDX's (R61). -/
theorem DataInv.of_bitHigh {s : State} (hp : s.phase = .bitHigh) (hc : s.code = .none) (sr : s.sr = 0#40)
    (tmp : s.hTmp = 0#16 ∧ s.tTmp = 0#16)
    (pulses : ∀ i, s.bitIdx.toNat < i → i < 40 → s.pulseAt i = ⟨0#8, 0#8⟩)
    (opened : (s.pulseAt s.bitIdx.toNat).high = 0#8) : DataInv s where
  sr_zero := fun _ => sr
  tmp_zero := fun _ => tmp
  pulses_ack := not_between hp rfl
  pulses_low := fun e => by rw [hp] at e; cases e
  pulses_high := fun _ => pulses
  pulse_open := fun _ => opened
  bitIdx_end := not_between hp rfl
  sr_packed := not_between hp rfl
  checksum_ok := not_between hp rfl
  tmp_values := not_between hp rfl
  reading := fun e => by rw [hc] at e; cases e

/-- In DECIDE all pairs are captured and none is decided (R161). -/
theorem DataInv.of_decideBits {s : State} (hp : s.phase = .decideBits) (hc : s.code = .none) (sr : s.sr = 0#40)
    (tmp : s.hTmp = 0#16 ∧ s.tTmp = 0#16) (idx : s.bitIdx = 39#6) : DataInv s where
  sr_zero := fun _ => sr
  tmp_zero := fun _ => tmp
  pulses_ack := not_between hp rfl
  pulses_low := fun e => by rw [hp] at e; cases e
  pulses_high := fun e => by rw [hp] at e; cases e
  pulse_open := fun e => by rw [hp] at e; cases e
  bitIdx_end := fun _ => idx
  sr_packed := not_between hp rfl
  checksum_ok := not_between hp rfl
  tmp_values := not_between hp rfl
  reading := fun e => by rw [hc] at e; cases e

/-- From CHECK to SUCCESS SR is the packing of the pairs, then validated, then interpreted (R180, R186, R190). -/
theorem DataInv.of_decoding {s : State} {p : Phase} (hp : s.phase = p) (part : between .check .success p = true)
    (hc : s.code = .none) (idx : s.bitIdx = 39#6) (packed : s.sr = packedBits s.pulse)
    (tmp : between .startLow .interp p = true → s.hTmp = 0#16 ∧ s.tTmp = 0#16)
    (valid : between .interp .success p = true → checksumOf s.sr = rawByte s.sr 4)
    (values : between .range .success p = true →
      s.hTmp = interpHum s.cfg.variant s.sr ∧ s.tTmp = interpTemp s.cfg.variant s.sr) : DataInv s := by
  have after : ∀ q, between .check .success q = true → q ≠ .bitLow ∧ q ≠ .bitHigh ∧
      between .startLow .decideBits q = false ∧ between .startLow .ackEnd q = false := by
    intro q; cases q <;> decide
  obtain ⟨hl, hh, hd, ha⟩ := after p part
  exact {
    sr_zero := not_between hp hd
    tmp_zero := fun e => tmp (hp ▸ e)
    pulses_ack := not_between hp ha
    pulses_low := fun e => absurd (hp.symm.trans e) hl
    pulses_high := fun e => absurd (hp.symm.trans e) hh
    pulse_open := fun e => absurd (hp.symm.trans e) hh
    bitIdx_end := fun _ => idx
    sr_packed := fun _ => packed
    checksum_ok := fun e => valid (hp ▸ e)
    tmp_values := fun e => values (hp ▸ e)
    reading := fun e => by rw [hc] at e; cases e }

/-! ## What keeps it -/

theorem DataInv.advance {s : State} (h : DataInv s) : DataInv s.advance := by
  unfold State.advance
  split <;> exact { h with }

theorem DataInv.deliver {s : State} (h : DataInv s) (r : Returned) : DataInv (s.deliver r) := { h with }

theorem dataInv_resetBlock (s : State) : DataInv s.resetBlock := .of_idle rfl fun e => nomatch e

/-- The error exit leaves no Reading. -/
theorem dataInv_abortWith (s : State) (e : ErrorKind) : DataInv (s.abortWith e) :=
  .of_idle rfl fun h => absurd h (errorCode_ne_ok e)

/-- A cleared pulse buffer reads 0 everywhere (R50, R150). -/
theorem pulseAt_of_cleared {s : State} (h : s.pulse = clearedPulses) {i : Nat} (hi : i < 40) :
    s.pulseAt i = ⟨0#8, 0#8⟩ := by
  simp [State.pulseAt, h, clearedPulses, hi]

/-- Every outcome of a tick keeps the data invariant. -/
theorem DataInv.tickStep {inp : Inputs} {s u : State} (d : DataInv s) (h : Inv s) (hu : TickStep inp s u) :
    DataInv u := by
  have code : ∀ {p}, s.phase = p → p ≠ .idle → s.code = .none := fun hp hn => h.code_none (hp ▸ hn)
  have sr : ∀ {p}, s.phase = p → between .startLow .decideBits p = true → s.sr = 0#40 :=
    fun hp hb => d.sr_zero (hp ▸ hb)
  have tmp : ∀ {p}, s.phase = p → between .startLow .interp p = true → s.hTmp = 0#16 ∧ s.tTmp = 0#16 :=
    fun hp hb => d.tmp_zero (hp ▸ hb)
  have cleared : ∀ {p}, s.phase = p → between .startLow .ackEnd p = true → s.pulse = clearedPulses :=
    fun hp hb => d.pulses_ack (hp ▸ hb)
  have idx : ∀ {p}, s.phase = p → between .decideBits .success p = true → s.bitIdx = 39#6 :=
    fun hp hb => d.bitIdx_end (hp ▸ hb)
  have packed : ∀ {p}, s.phase = p → between .check .success p = true → s.sr = packedBits s.pulse :=
    fun hp hb => d.sr_packed (hp ▸ hb)
  have valid : ∀ {p}, s.phase = p → between .interp .success p = true → checksumOf s.sr = rawByte s.sr 4 :=
    fun hp hb => d.checksum_ok (hp ▸ hb)
  have stored : s.bitIdx.toNat < 40 := Nat.lt_succ_of_le h.bitIdx_le
  cases hu with
  | rest hp hs => exact d
  | accept hp hs hf => exact .of_handshake rfl rfl rfl rfl ⟨rfl, rfl⟩ rfl
  | acceptFault hp hs hf => exact dataInv_abortWith _ _
  | hold hp hd => exact { d with }
  | release hp hd hf =>
    exact .of_handshake rfl rfl (code hp (by decide)) (sr hp rfl) (tmp hp rfl) (cleared hp rfl)
  | releaseFault hp hd hf => exact dataInv_abortWith _ _
  | listen hp hd => exact .of_handshake rfl rfl (code hp (by decide)) (sr hp rfl) (tmp hp rfl) (cleared hp rfl)
  | sampleFault hw hf => exact dataInv_abortWith _ _
  | wrongLevel hw hf hl hc => exact { d with }
  | expire hw hf hl hc => exact dataInv_abortWith _ _
  | acknowledged ha hq hw hf =>
    obtain hp | hp | hp := ack_cases ha <;> rw [hp] at hq <;> cases hq
    · exact .of_handshake rfl rfl (code hp (by decide)) (sr hp rfl) (tmp hp rfl) (cleared hp rfl)
    · exact .of_handshake rfl rfl (code hp (by decide)) (sr hp rfl) (tmp hp rfl) (cleared hp rfl)
    · exact .of_bitLow rfl (code hp (by decide)) (sr hp rfl) (tmp hp rfl)
        fun i _ hi => pulseAt_of_cleared (cleared hp rfl) hi
  | rise hp hf hl =>
    have entry := fun j => pulseAt_setPulseLow s s.bitIdx.toNat j s.cnt stored
    refine .of_bitHigh rfl (code hp (by decide)) (sr hp rfl) (tmp hp rfl) (fun i hi h40 => ?_) ?_
    · exact ((entry i).trans (if_neg (Nat.ne_of_gt hi))).trans (d.pulses_low hp i (Nat.le_of_lt hi) h40)
    · have same := (entry s.bitIdx.toNat).trans (if_pos rfl)
      rw [d.pulses_low hp _ le_rfl stored] at same
      exact congrArg Pulse.high same
  | fall hp hf hl hi =>
    obtain ⟨succ, -⟩ := toNat_bitIdx_add_one h.bitIdx_le hi
    refine .of_bitLow rfl (code hp (by decide)) (sr hp rfl) (tmp hp rfl) fun i hb h40 => ?_
    have later : s.bitIdx.toNat < i := succ.symm.trans_le hb
    exact ((pulseAt_setPulseHigh s s.bitIdx.toNat i s.cnt stored).trans (if_neg (Nat.ne_of_gt later))).trans
      (d.pulses_high hp i later h40)
  | lastFall hp hf hl hi => exact .of_decideBits rfl (code hp (by decide)) (sr hp rfl) (tmp hp rfl) hi
  | decideBits hp =>
    exact .of_decoding rfl rfl (code hp (by decide)) (idx hp rfl) rfl (fun _ => tmp hp rfl)
      (not_between rfl rfl) (not_between rfl rfl)
  | checkPass hp hc =>
    exact .of_decoding rfl rfl (code hp (by decide)) (idx hp rfl) (packed hp rfl) (fun _ => tmp hp rfl)
      (fun _ => hc) (not_between rfl rfl)
  | checkFail hp hc => exact dataInv_abortWith _ _
  | interp hp =>
    exact .of_decoding rfl rfl (code hp (by decide)) (idx hp rfl) (packed hp rfl) (not_between rfl rfl)
      (fun _ => valid hp rfl) (fun _ => ⟨rfl, rfl⟩)
  | rangePass hp hh =>
    exact .of_decoding rfl rfl (code hp (by decide)) (idx hp rfl) (packed hp rfl) (not_between rfl rfl)
      (fun _ => valid hp rfl) (fun _ => d.tmp_values (by rw [hp]; rfl))
  | rangeFail hp hh => exact dataInv_abortWith _ _
  | success hp =>
    obtain ⟨hum, temp⟩ := d.tmp_values (by rw [hp]; rfl)
    exact .of_idle rfl fun _ => ⟨idx hp rfl, packed hp rfl, valid hp rfl, hum, temp⟩

/-- Settles O5. -/
theorem stepKeepsTheDataInvariant : Obligations.StepKeepsTheDataInvariant := by
  intro s t h d ht
  obtain rfl | ⟨r, rfl⟩ | ⟨u, hu, rfl⟩ := step_outcomes ht
  · exact (dataInv_resetBlock s).advance
  · exact (d.deliver r).advance
  · exact (d.tickStep h hu).advance

/-- Settles O3: the reset state is the idle block with nothing recorded. -/
theorem resetMeetsTheInvariants : Obligations.ResetMeetsTheInvariants := fun c =>
  ⟨{ inv_resetBlock { State.reset with cfg := c } with }, { dataInv_resetBlock { State.reset with cfg := c } with }⟩

end Sys2Proof.Machine
end

section
/-! PROOFS. What one tick reads and writes: the pin and its faults, `start`, the wait step, PHASE and the recorded
outcome (spec/10_state.md R51; 30_encoding.md R98; 42_sequencer.md R151, R155, R162; 60_exceptions.md R210 to R219). -/

namespace Sys2Proof.Machine

/-! ## `pin_op` -/

theorem pinOp_of_accept {s : State} (hr : s.inputs.rst = false) (hp : s.phase = .idle) (hs : s.inputs.start = true) :
    s.pinOp = 2#2 := by
  simp [State.pinOp, hr, hp, hs]

theorem pinOp_of_release {s : State} (hr : s.inputs.rst = false) (hp : s.phase = .startLow) (hd : s.dly = 0#15) :
    s.pinOp = 3#2 := by
  simp [State.pinOp, hr, hp, hd]

theorem pinOp_of_waiting {s : State} {target : Level} (hr : s.inputs.rst = false)
    (hw : waitTarget s.phase = some target) : s.pinOp = 1#2 := by
  obtain ⟨hp, -⟩ | ⟨hp, -⟩ | ⟨hp, -⟩ | ⟨hp, -⟩ | ⟨hp, -⟩ := waitTarget_eq_some_cases hw <;>
    simp [State.pinOp, hr, hp, samplesPin]

/-- Without a command in IDLE, outside START_LOW's last tick and the five waits, no pin is touched (R98). -/
theorem pinOp_of_none {s : State} {p : Phase} (hp : s.phase = p) (hi : p = .idle → s.inputs.start = false)
    (hl : p = .startLow → s.dly ≠ 0#15) (hw : waitTarget p = none) : s.pinOp = 0#2 := by
  subst hp
  unfold State.pinOp
  cases hp : s.phase <;> simp_all [samplesPin, waitTarget]

/-- A hold that goes on touches no pin. -/
theorem pinOp_of_hold {s : State} (hp : s.phase = .startLow ∨ s.phase = .startHigh) (hd : s.dly ≠ 0#15) :
    s.pinOp = 0#2 := by
  obtain hp | hp := hp
  · exact pinOp_of_none hp (fun e => nomatch e) (fun _ => hd) rfl
  · exact pinOp_of_none hp (fun e => nomatch e) (fun e => nomatch e) rfl

/-- A phase that neither waits nor sets the pin touches no pin. -/
theorem pinOp_of_other {s : State} {p : Phase} (hp : s.phase = p) (hi : p ≠ .idle) (hl : p ≠ .startLow)
    (hw : waitTarget p = none) : s.pinOp = 0#2 :=
  pinOp_of_none hp (fun e => absurd e hi) (fun e => absurd e hl) hw

/-- Each outcome of a tick with the pin operation announced for it: none, and then the pin inputs play no part, the
sample of a wait, the accept step's set or START_LOW's (R98). -/
theorem TickStep.pin_cases {s u : State} (hu : TickStep s.inputs s u) (hr : s.inputs.rst = false) :
    (s.pinOp = 0#2 ∧ u.pinOut = s.pinOut ∧
      ∀ l f, TickStep { s.inputs with pinIn := l, pinFault := f } s u) ∨
    (s.pinOp = 1#2 ∧ u.pinOut = s.pinOut ∧ ∃ target, waitTarget s.phase = some target) ∨
    (s.pinOp = 2#2 ∧ u.pinOut = .low ∧ s.phase = .idle ∧ s.inputs.start = true) ∨
    (s.pinOp = 3#2 ∧ u.pinOut = .high ∧ s.phase = .startLow ∧ s.dly = 0#15) := by
  have sample : ∀ {target}, waitTarget s.phase = some target → s.pinOp = 1#2 := fun hw => pinOp_of_waiting hr hw
  cases hu with
  | rest hp hs => exact .inl ⟨pinOp_of_idle hp hs, rfl, fun _ _ => .rest hp hs⟩
  | accept hp hs hf => exact .inr (.inr (.inl ⟨pinOp_of_accept hr hp hs, rfl, hp, hs⟩))
  | acceptFault hp hs hf => exact .inr (.inr (.inl ⟨pinOp_of_accept hr hp hs, rfl, hp, hs⟩))
  | hold hp hd => exact .inl ⟨pinOp_of_hold hp hd, rfl, fun _ _ => .hold hp hd⟩
  | release hp hd hf => exact .inr (.inr (.inr ⟨pinOp_of_release hr hp hd, rfl, hp, hd⟩))
  | releaseFault hp hd hf => exact .inr (.inr (.inr ⟨pinOp_of_release hr hp hd, rfl, hp, hd⟩))
  | listen hp hd => exact .inl ⟨pinOp_of_other hp (by decide) (by decide) rfl, rfl, fun _ _ => .listen hp hd⟩
  | sampleFault hw hf => exact .inr (.inl ⟨sample hw, rfl, _, hw⟩)
  | wrongLevel hw hf hl hc => exact .inr (.inl ⟨sample hw, rfl, _, hw⟩)
  | expire hw hf hl hc => exact .inr (.inl ⟨sample hw, rfl, _, hw⟩)
  | acknowledged ha hq hw hf => exact .inr (.inl ⟨sample hw, rfl, _, hw⟩)
  | rise hp hf hl => exact .inr (.inl ⟨sample (target := .high) (by rw [hp]; rfl), rfl, .high, by rw [hp]; rfl⟩)
  | fall hp hf hl hi => exact .inr (.inl ⟨sample (target := .low) (by rw [hp]; rfl), rfl, .low, by rw [hp]; rfl⟩)
  | lastFall hp hf hl hi => exact .inr (.inl ⟨sample (target := .low) (by rw [hp]; rfl), rfl, .low, by rw [hp]; rfl⟩)
  | decideBits hp => exact .inl ⟨pinOp_of_other hp (by decide) (by decide) rfl, rfl, fun _ _ => .decideBits hp⟩
  | checkPass hp hc => exact .inl ⟨pinOp_of_other hp (by decide) (by decide) rfl, rfl, fun _ _ => .checkPass hp hc⟩
  | checkFail hp hc => exact .inl ⟨pinOp_of_other hp (by decide) (by decide) rfl, rfl, fun _ _ => .checkFail hp hc⟩
  | interp hp => exact .inl ⟨pinOp_of_other hp (by decide) (by decide) rfl, rfl, fun _ _ => .interp hp⟩
  | rangePass hp hh => exact .inl ⟨pinOp_of_other hp (by decide) (by decide) rfl, rfl, fun _ _ => .rangePass hp hh⟩
  | rangeFail hp hh => exact .inl ⟨pinOp_of_other hp (by decide) (by decide) rfl, rfl, fun _ _ => .rangeFail hp hh⟩
  | success hp => exact .inl ⟨pinOp_of_other hp (by decide) (by decide) rfl, rfl, fun _ _ => .success hp⟩

/-- Settles O24: with `rst` both steps are the reset, otherwise the outcome does not depend on the pin inputs. -/
theorem pinInputsAreIgnoredWithoutAPinOperation : Obligations.PinInputsAreIgnoredWithoutAPinOperation := by
  intro s inp l f rest h hop
  obtain hr | hr := Bool.eq_false_or_eq_true inp.rst
  · exact step_replace_reset h hr hr
  · refine step_replace_tick h hr hr fun u hu => ?_
    rw [← inputs_of_tick h] at hr hu ⊢
    obtain ⟨-, -, any⟩ | ⟨e, -⟩ | ⟨e, -⟩ | ⟨e, -⟩ := hu.pin_cases hr
    · exact any l f
    · cases hop.symm.trans e
    · cases hop.symm.trans e
    · cases hop.symm.trans e

/-- Settles O25. -/
theorem pinOutFollowsTheAnnouncedOperation : Obligations.PinOutFollowsTheAnnouncedOperation := by
  intro s inp rest h hr
  obtain ⟨u, hu⟩ := tickStep_of_tick h
  refine ⟨_, hu.step_eq h hr, ?_⟩
  rw [← inputs_of_tick h] at hr hu
  obtain ⟨op, out, -⟩ | ⟨op, out, -⟩ | ⟨op, out, -⟩ | ⟨op, out, -⟩ := hu.pin_cases hr <;> rw [op] <;> exact out

/-- Settles O26: a fault is an outcome of its own at the wait's sample, at the accept step's set and at
START_LOW's. -/
theorem pinFaultAbortsAtAnyPinOperation : Obligations.PinFaultAbortsAtAnyPinOperation := by
  intro s inp rest h hr hf hop
  obtain ⟨u, hu⟩ := tickStep_of_tick h
  have hi := inputs_of_tick h
  rw [← hi] at hu
  obtain ⟨op, -⟩ | ⟨op, -, target, hw⟩ | ⟨op, -, hp, hs⟩ | ⟨op, -, hp, hd⟩ := hu.pin_cases (by rw [hi, hr])
  · exact absurd op hop
  · refine ⟨_, (TickStep.sampleFault hw hf).step_eq h hr, fun _ => ?_, fun hp => absurd hp (ne_idle_of_waiting hw)⟩
    rw [op]
    rfl
  · exact ⟨_, (TickStep.acceptFault hp (by rw [← hi, hs]) hf).step_eq h hr, fun hn => absurd hp hn, fun _ => rfl⟩
  · refine ⟨_, (TickStep.releaseFault hp hd hf).step_eq h hr, fun _ => ?_, fun e => by rw [hp] at e; cases e⟩
    rw [op]
    rfl

/-! ## `start` -/

/-- A busy tick's outcome does not depend on `start` (R162). -/
theorem TickStep.withStart {inp : Inputs} {s u : State} (hu : TickStep inp s u) (busy : s.phase ≠ .idle) (b : Bool) :
    TickStep { inp with start := b } s u := by
  cases hu with
  | rest hp hs => exact absurd hp busy
  | accept hp hs hf => exact absurd hp busy
  | acceptFault hp hs hf => exact absurd hp busy
  | hold hp hd => exact .hold hp hd
  | release hp hd hf => exact .release hp hd hf
  | releaseFault hp hd hf => exact .releaseFault hp hd hf
  | listen hp hd => exact .listen hp hd
  | sampleFault hw hf => exact .sampleFault hw hf
  | wrongLevel hw hf hl hc => exact .wrongLevel hw hf hl hc
  | expire hw hf hl hc => exact .expire hw hf hl hc
  | acknowledged ha hq hw hf => exact .acknowledged ha hq hw hf
  | rise hp hf hl => exact .rise hp hf hl
  | fall hp hf hl hi => exact .fall hp hf hl hi
  | lastFall hp hf hl hi => exact .lastFall hp hf hl hi
  | decideBits hp => exact .decideBits hp
  | checkPass hp hc => exact .checkPass hp hc
  | checkFail hp hc => exact .checkFail hp hc
  | interp hp => exact .interp hp
  | rangePass hp hh => exact .rangePass hp hh
  | rangeFail hp hh => exact .rangeFail hp hh
  | success hp => exact .success hp

/-- Settles O37. -/
theorem startIsIgnoredWhileBusy : Obligations.StartIsIgnoredWhileBusy := by
  intro s inp b rest h busy
  obtain hr | hr := Bool.eq_false_or_eq_true inp.rst
  · exact step_replace_reset h hr hr
  · exact step_replace_tick h hr hr fun u hu => hu.withStart busy b

/-- Settles O38: the accept step writes every register, from the configuration and the tick's inputs. -/
theorem acceptStateIsIndependentOfThePast : Obligations.AcceptStateIsIndependentOfThePast := by
  intro s s' inp rest rest' hc hp hp' h h' hr hs
  cases hf : inp.pinFault with
  | true =>
    exact ⟨_, _, (TickStep.acceptFault hp hs hf).step_eq h hr, (TickStep.acceptFault hp' hs hf).step_eq h' hr, rfl⟩
  | false =>
    refine ⟨_, _, (TickStep.accept hp hs hf).step_eq h hr, (TickStep.accept hp' hs hf).step_eq h' hr, ?_⟩
    simp only [State.registers, drivePin_guard, disableGuard_guard, clearedForRead_cfg, hc]
    rfl

/-! ## The wait step -/

/-- What the wait step alone leaves in the latch (R124; log 8). -/
theorem exec_waitStep (target : Level) (s : State) : exec (.waitStep target) s =
    .next ((s.afterWait (waitResult target s)).deliver (.wait (waitResult target s))) := rfl

/-- `u` is `s` after a wait's Done: PHASE is a successor, CNT is clear, CODE stays, and in the acknowledgement phases
nothing else differs (R155 to R160). -/
def AfterDone (s u : State) : Prop :=
  u.phase ∈ successors s.phase ∧ u.cnt = 0#8 ∧ u.code = s.code ∧
    (between .ackFall .ackEnd s.phase = true → u = { s with cnt := 0#8, phase := u.phase })

theorem afterDone_levelSeen {s : State} {target : Level} (hw : waitTarget s.phase = some target) :
    AfterDone s (levelSeen s) := by
  unfold AfterDone
  have ack : ∀ q, between .ackFall .ackEnd s.phase = true → successors s.phase = [q] → AfterDone s (levelSeen s) := by
    intro q ha hq
    rw [AfterDone, levelSeen_of_ack ha hq, hq]
    exact ⟨List.mem_singleton.2 rfl, rfl, rfl, fun _ => rfl⟩
  obtain ⟨hp, -⟩ | ⟨hp, -⟩ | ⟨hp, -⟩ | ⟨hp, -⟩ | ⟨hp, -⟩ := waitTarget_eq_some_cases hw
  · exact ack .ackRise (by rw [hp]; rfl) (by rw [hp]; rfl)
  · exact ack .ackEnd (by rw [hp]; rfl) (by rw [hp]; rfl)
  · exact ack .bitLow (by rw [hp]; rfl) (by rw [hp]; rfl)
  · rw [levelSeen_of_bitLow hp, hp]
    exact ⟨List.mem_singleton.2 rfl, rfl, rfl, not_between rfl rfl⟩
  · rw [levelSeen_of_bitHigh hp, hp]
    split_ifs
    · exact ⟨List.mem_cons_of_mem _ (List.mem_singleton.2 rfl), rfl, rfl, not_between rfl rfl⟩
    · exact ⟨List.mem_cons_self, rfl, rfl, not_between rfl rfl⟩

/-- Settles O36: the tick of a waiting phase and the wait step alone make the same three tests. -/
theorem waitingPhaseIsOneWaitStep : Obligations.WaitingPhaseIsOneWaitStep := by
  intro s u inp rest target h hr hw hu
  rw [exec_waitStep, waitResult_eq, inputs_of_tick h] at hu
  injection hu with hu
  subst hu
  by_cases hf : inp.pinFault = true
  · rw [if_pos hf]
    exact ⟨_, (TickStep.sampleFault hw hf).step_eq h hr, (fun e => nomatch e), fun _ => rfl, (fun e => nomatch e),
      (fun _ e => nomatch e)⟩
  have hf' : inp.pinFault = false := by simpa using hf
  rw [if_neg hf]
  by_cases hl : inp.pinIn = target
  · rw [if_pos hl]
    have seen := TickStep.of_levelSeen (hw.trans (congrArg some hl.symm)) hf'
    refine ⟨_, seen.step_eq h hr, (fun e => nomatch e), (fun e => nomatch e), (fun e => nomatch e), fun _ _ => ?_⟩
    obtain ⟨next, cnt, code, ack⟩ := afterDone_levelSeen hw
    exact ⟨next, cnt, code, fun ha =>
      congrArg (fun v : State => { v with script := rest, tick := s.tick + 1 }.registers) (ack ha)⟩
  rw [if_neg hl]
  by_cases hc : s.cnt = 255#8
  · rw [if_pos hc]
    exact ⟨_, (TickStep.expire hw hf' hl hc).step_eq h hr, (fun e => nomatch e), (fun e => nomatch e), fun _ => rfl,
      (fun _ e => nomatch e)⟩
  · rw [if_neg hc]
    exact ⟨_, (TickStep.wrongLevel hw hf' hl hc).step_eq h hr, fun _ => rfl, (fun e => nomatch e), (fun e => nomatch e),
      (fun _ e => nomatch e)⟩

/-! ## PHASE -/

/-- PHASE goes from `s` to `u` to a successor, to IDLE with an outcome, or it stays while a count goes on (R151). -/
def MovesInSequence (s u : State) : Prop :=
  (u.phase = s.phase ∨ u.phase ∈ successors s.phase ∨ (u.phase = .idle ∧ u.code ≠ .none)) ∧
  (u.phase = s.phase → s.phase ≠ .idle →
    (between .startLow .startHigh s.phase = true ∧ s.dly ≠ 0#15 ∧ u.dly = s.dly - 1#15) ∨
    (waitTarget s.phase ≠ none ∧ s.cnt ≠ 255#8 ∧ u.cnt = s.cnt + 1#8))

theorem not_mem_successors (p : Phase) : p ∉ successors p := by cases p <;> decide

theorem movesInSequence_of_successor {s u : State} {p : Phase} (hp : s.phase = p) (next : u.phase ∈ successors p) :
    MovesInSequence s u := by
  subst hp
  exact ⟨.inr (.inl next), fun e => absurd (e ▸ next) (not_mem_successors _)⟩

theorem movesInSequence_of_abort (s v : State) (e : ErrorKind) : MovesInSequence s (v.abortWith e) :=
  ⟨.inr (.inr ⟨rfl, errorCode_ne_none e⟩), fun e hn => absurd e.symm hn⟩

theorem TickStep.movesInSequence {inp : Inputs} {s u : State} (hu : TickStep inp s u) : MovesInSequence s u := by
  cases hu with
  | rest hp hs => exact ⟨.inl rfl, fun _ hn => absurd hp hn⟩
  | accept hp hs hf => exact movesInSequence_of_successor hp (.head _)
  | acceptFault hp hs hf => exact movesInSequence_of_abort ..
  | hold hp hd =>
    have hold : between .startLow .startHigh s.phase = true := by obtain hp | hp := hp <;> rw [hp] <;> rfl
    exact ⟨.inl rfl, fun _ _ => .inl ⟨hold, hd, rfl⟩⟩
  | release hp hd hf => exact movesInSequence_of_successor hp (.head _)
  | releaseFault hp hd hf => exact movesInSequence_of_abort ..
  | listen hp hd => exact movesInSequence_of_successor hp (.head _)
  | sampleFault hw hf => exact movesInSequence_of_abort ..
  | wrongLevel hw hf hl hc =>
    exact ⟨.inl rfl, fun _ _ => .inr ⟨by rw [hw]; exact Option.some_ne_none _, hc, rfl⟩⟩
  | expire hw hf hl hc => exact movesInSequence_of_abort ..
  | acknowledged ha hq hw hf => exact movesInSequence_of_successor rfl (by rw [hq]; exact .head _)
  | rise hp hf hl => exact movesInSequence_of_successor hp (.head _)
  | fall hp hf hl hi => exact movesInSequence_of_successor hp (.head _)
  | lastFall hp hf hl hi => exact movesInSequence_of_successor hp (.tail _ (.head _))
  | decideBits hp => exact movesInSequence_of_successor hp (.head _)
  | checkPass hp hc => exact movesInSequence_of_successor hp (.head _)
  | checkFail hp hc => exact movesInSequence_of_abort ..
  | interp hp => exact movesInSequence_of_successor hp (.head _)
  | rangePass hp hh => exact movesInSequence_of_successor hp (.head _)
  | rangeFail hp hh => exact movesInSequence_of_abort ..
  | success hp => exact movesInSequence_of_successor hp (.head _)

/-- Settles O39. -/
theorem phaseMovesOnlyAsTheSequenceSays : Obligations.PhaseMovesOnlyAsTheSequenceSays := by
  intro s t inp rest h hr ht
  obtain ⟨u, hu, rfl⟩ := tickStep_of_step h hr ht
  exact hu.movesInSequence

/-! ## The recorded outcome -/

theorem eq_otherLevel_iff (a b : Level) : a = otherLevel b ↔ b ≠ a := by cases a <;> cases b <;> decide

/-- Settles O40: outcome by outcome of the tick, CODE after it against the conditions, which PHASE and `pin_op`
decide; a busy block has recorded nothing yet. -/
theorem eachOutcomeHasExactlyItsCause : Obligations.EachOutcomeHasExactlyItsCause := by
  intro s t inp rest h busy hs hr ht
  obtain ⟨u, hu, rfl⟩ := tickStep_of_step hs hr ht
  have hi := inputs_of_tick hs
  have hr' : s.inputs.rst = false := by rw [hi, hr]
  have code := h.code_none busy
  have sample : ∀ {target}, waitTarget s.phase = some target → s.pinOp = 1#2 := fun hw => pinOp_of_waiting hr' hw
  cases hu with
  | rest hp => exact absurd hp busy
  | accept hp => exact absurd hp busy
  | acceptFault hp => exact absurd hp busy
  | hold hp hd =>
    have op := pinOp_of_hold hp hd
    obtain hp | hp := hp <;> simp [hp, code, op, between, Phase.code]
  | release hp hd hf => simp [hp, code, hf, between, Phase.code]
  | releaseFault hp hd hf =>
    simp [hp, hf, pinOp_of_release hr' hp hd, between, Phase.code, ErrorKind.code]
  | listen hp => simp [hp, code, pinOp_of_other hp (by decide) (by decide) rfl, between, Phase.code]
  | sampleFault hw hf =>
    have op := sample hw
    obtain ⟨hp, -⟩ | ⟨hp, -⟩ | ⟨hp, -⟩ | ⟨hp, -⟩ | ⟨hp, -⟩ := waitTarget_eq_some_cases hw <;>
      simp [hp, hf, op, ErrorKind.code]
  | wrongLevel hw hf hl hc =>
    obtain ⟨hp, -⟩ | ⟨hp, -⟩ | ⟨hp, -⟩ | ⟨hp, -⟩ | ⟨hp, -⟩ := waitTarget_eq_some_cases hw <;>
      simp [hp, code, hf, hc]
  | expire hw hf hl hc =>
    obtain ⟨hp, rfl⟩ | ⟨hp, rfl⟩ | ⟨hp, rfl⟩ | ⟨hp, rfl⟩ | ⟨hp, rfl⟩ := waitTarget_eq_some_cases hw <;>
      simp [hp, hf, hc, hl, between, Phase.code, waitTarget, expiredKind, ErrorKind.code, eq_otherLevel_iff]
  | acknowledged ha hq hw hf =>
    obtain hp | hp | hp := ack_cases ha <;> rw [hp] at hq hw <;> cases hq <;>
      simp [hp, code, hf, hw, eq_otherLevel_iff]
  | rise hp hf hl => simp [hp, code, hf, hl, between, Phase.code, waitTarget, otherLevel]
  | fall hp hf hl => simp [hp, code, hf, hl, between, Phase.code, waitTarget, otherLevel]
  | lastFall hp hf hl => simp [hp, code, hf, hl, between, Phase.code, waitTarget, otherLevel]
  | decideBits hp => simp [hp, code, pinOp_of_other hp (by decide) (by decide) rfl, between, Phase.code]
  | checkPass hp hc => simp [hp, code, hc, pinOp_of_other hp (by decide) (by decide) rfl, between, Phase.code]
  | checkFail hp hc =>
    simp [hp, hc, pinOp_of_other hp (by decide) (by decide) rfl, between, Phase.code, ErrorKind.code]
  | interp hp => simp [hp, code, pinOp_of_other hp (by decide) (by decide) rfl, between, Phase.code]
  | rangePass hp hh =>
    simp [hp, code, hh, pinOp_of_other hp (by decide) (by decide) rfl, between, Phase.code]
  | rangeFail hp hh =>
    simp [hp, hh, pinOp_of_other hp (by decide) (by decide) rfl, between, Phase.code, ErrorKind.code]
  | success hp => simp [hp, pinOp_of_other hp (by decide) (by decide) rfl, between, Phase.code]

end Sys2Proof.Machine
end

section
/-! PROOFS. The frame: bytes, checksum and interpretation as numbers, and their agreement with the source's arithmetic
(spec/20_memory.md R62; 43_frame_checksum.md R180 to R184; 44_variant_decoders.md R190 to R196). -/

namespace Sys2Proof.Machine

/-! ## Packing -/

/-- Bit j of the packing of a list of pairs is decided by the j-th pair from its end (R180). -/
theorem getLsbD_foldl_shiftIn (ps : List Pulse) (v : Frame) (j : Nat) (hj : j < ps.length) (h40 : j < 40) :
    (ps.foldl (fun v p => shiftIn v (decidedBit p)) v).getLsbD j =
      decide (ps[ps.length - 1 - j].low < ps[ps.length - 1 - j].high) := by
  induction ps using List.reverseRecOn generalizing j with
  | nil => cases hj
  | append_singleton ps p ih =>
    rw [List.foldl_append, List.foldl_cons, List.foldl_nil, getLsbD_shiftIn _ _ _ h40]
    rw [List.length_append, List.length_singleton] at hj
    cases j with
    | zero =>
      rw [if_pos rfl, decidedBit_getLsbD]
      simp
    | succ j =>
      have place : (ps ++ [p]).length - 1 - (j + 1) = ps.length - 1 - j := by simp; omega
      have inside : ps.length - 1 - j < ps.length := by omega
      rw [if_neg (Nat.succ_ne_zero j), Nat.add_sub_cancel, ih j (by omega) (by omega)]
      simp only [place, List.getElem_append_left inside]

/-- The bit of pair i in SR (R62, R181). -/
theorem getLsbD_packedBits (s : State) {i : Nat} (hi : i < 40) :
    (packedBits s.pulse).getLsbD (39 - i) = decide ((s.pulseAt i).low.toNat < (s.pulseAt i).high.toNat) := by
  have entry : s.pulseAt i = s.pulse[i] := by simp [State.pulseAt, hi]
  have length : s.pulse.toList.length = 40 := s.pulse.length_toList
  rw [packedBits, getLsbD_foldl_shiftIn _ _ _ (by omega) (by omega), entry]
  have place : s.pulse.toList.length - 1 - (39 - i) = i := by omega
  simp only [place, Vector.getElem_toList]
  rfl

/-- Settles O48. -/
theorem decidePacksEveryPairInOrder : Obligations.DecidePacksEveryPairInOrder :=
  fun s => ⟨_, rfl, rfl, fun _ hi => getLsbD_packedBits s hi⟩

/-- Two buffers whose pairs decide alike are packed alike. -/
theorem packedBits_congr {s t : State} (h : ∀ i < 40, ((t.pulseAt i).low.toNat < (t.pulseAt i).high.toNat ↔
    (s.pulseAt i).low.toNat < (s.pulseAt i).high.toNat)) : packedBits t.pulse = packedBits s.pulse := by
  refine BitVec.eq_of_getLsbD_eq fun j hj => ?_
  have place : 39 - (39 - j) = j := by omega
  have ht := getLsbD_packedBits t (i := 39 - j) (by omega)
  have hs := getLsbD_packedBits s (i := 39 - j) (by omega)
  rw [place] at ht hs
  rw [ht, hs]
  exact decide_eq_decide.2 (h (39 - j) (by omega))

/-- Settles O49: without overflow the offset cancels in every comparison. -/
theorem decidedBitsIgnoreAUniformOffset : Obligations.DecidedBitsIgnoreAUniformOffset := by
  intro s t u d hd ht hu
  cases ht
  cases hu
  refine packedBits_congr fun i hi => ?_
  obtain ⟨low, high⟩ := hd i hi
  have entry : s.pulseAt i = s.pulse[i] := by simp [State.pulseAt, hi]
  have offset : ∀ b : Byte, b.toNat + d < 256 → (b + BitVec.ofNat 8 d).toNat = b.toNat + d := by
    intro b hb
    rw [BitVec.toNat_add, BitVec.toNat_ofNat, Nat.add_mod_mod, Nat.mod_eq_of_lt hb]
  have moved : (State.pulseAt { s with
      pulse := s.pulse.map fun p => ⟨p.low + BitVec.ofNat 8 d, p.high + BitVec.ofNat 8 d⟩ } i) =
      ⟨(s.pulseAt i).low + BitVec.ofNat 8 d, (s.pulseAt i).high + BitVec.ofNat 8 d⟩ := by
    simp [State.pulseAt, hi]
  rw [moved, offset _ low, offset _ high]
  omega

/-! ## Bytes and fields as numbers -/

/-- The source's byte k is the model's (R62). -/
theorem byteOf_eq_toNat_rawByte (f : Frame) {k : Nat} (hk : k ≤ 4) : byteOf f k = (rawByte f k).toNat := by
  have place : 32 - 8 * k = 8 * (4 - k) := by omega
  rw [rawByte, byteOf, BitVec.extractLsb'_toNat, Nat.shiftRight_eq_div_pow, place, Nat.pow_mul]

/-- Two bit vectors side by side, as a number. -/
theorem toNat_append_eq {n m : Nat} (a : BitVec n) (b : BitVec m) : (a ++ b).toNat = 2 ^ m * a.toNat + b.toNat := by
  rw [BitVec.toNat_append, ← Nat.shiftLeft_add_eq_or_of_lt b.isLt, Nat.shiftLeft_eq, Nat.mul_comm]

/-- The checksum is the sum modulo 256 (R184). -/
theorem toNat_checksumOf (f : Frame) : (checksumOf f).toNat =
    ((rawByte f 0).toNat + (rawByte f 1).toNat + (rawByte f 2).toNat + (rawByte f 3).toNat) % 256 :=
  BitVec.toNat_ofNat ..

/-- Ten times a byte fits 16 bits, signed or not (R190, R200). -/
theorem tenths_setWidth (b : Byte) : (tenths (b.setWidth 16)).toNat = 10 * b.toNat ∧
    (tenths (b.setWidth 16)).toInt = 10 * (b.toNat : Int) := by
  have hb : b.toNat < 256 := b.isLt
  have value : (tenths (b.setWidth 16)).toNat = 10 * b.toNat := by
    rw [tenths, BitVec.toNat_ofNat, BitVec.toNat_setWidth]
    omega
  refine ⟨value, ?_⟩
  rw [BitVec.toInt_eq_toNat_of_lt (by omega), value]
  rfl

/-- The humidity INT computes, in the source's arithmetic (R190). -/
theorem toNat_interpHum_int (f : Frame) : (interpHum .int f).toNat = 10 * (rawByte f 0).toNat :=
  (tenths_setWidth _).1

/-- The humidity FIX computes, in the source's arithmetic (R192). -/
theorem toNat_interpHum_fix (f : Frame) : (interpHum .fix f).toNat = 256 * (rawByte f 0).toNat + (rawByte f 1).toNat :=
  toNat_append_eq _ _

/-- The magnitude of a FIX temperature in the source's arithmetic (R96). -/
theorem toNat_magFix (f : Frame) : (magFix f).toNat = 256 * ((rawByte f 2).toNat % 128) + (rawByte f 3).toNat := by
  rw [magFix, toNat_append_eq, BitVec.extractLsb'_toNat]
  rfl

/-- The sign of a FIX temperature in the source's arithmetic (R96). -/
theorem negFix_eq_decide (f : Frame) : negFix f = decide (128 ≤ (rawByte f 2).toNat) :=
  BitVec.msb_eq_decide (rawByte f 2)

/-- The temperature INT computes, in the source's arithmetic (R190). -/
theorem toInt_interpTemp_int (f : Frame) : (interpTemp .int f).toInt = 10 * ((rawByte f 2).toNat : Int) :=
  (tenths_setWidth _).2

/-- The temperature FIX computes, in the source's arithmetic (R192). -/
theorem toInt_interpTemp_fix (f : Frame) : (interpTemp .fix f).toInt =
    if 128 ≤ (rawByte f 2).toNat then -((256 * ((rawByte f 2).toNat % 128) + (rawByte f 3).toNat : Nat) : Int)
    else ((256 * ((rawByte f 2).toNat % 128) + (rawByte f 3).toNat : Nat) : Int) := by
  change (signedMagnitude (negFix f) (magFix f)).toInt = _
  rw [toInt_signedMagnitude, negFix_eq_decide, toNat_magFix]
  simp only [decide_eq_true_eq]

/-- A frame's outcome, in the model's own terms. -/
theorem frameOutcome_eq (v : Variant) (f : Frame) : frameOutcome v f =
    if checksumOf f ≠ rawByte f 4 then .checksumMismatch (rawByte f 4).toNat (checksumOf f).toNat
    else if 1000 < (interpHum v f).toNat then .invalidData
    else .reading (interpHum v f).toNat (interpTemp v f).toInt := by
  have checksum : checksumOf f ≠ rawByte f 4 ↔ (checksumOf f).toNat ≠ (rawByte f 4).toNat :=
    not_congr BitVec.toNat_inj.symm
  have bytes : ∀ k ≤ 4, byteOf f k = (rawByte f k).toNat := fun _ hk => byteOf_eq_toNat_rawByte f hk
  simp only [checksum, toNat_checksumOf, frameOutcome, bytes 0 (by decide), bytes 1 (by decide), bytes 2 (by decide),
    bytes 3 (by decide), bytes 4 (by decide)]
  cases v with
  | int => rw [toNat_interpHum_int, toInt_interpTemp_int]
  | fix => rw [toNat_interpHum_fix, toInt_interpTemp_fix]

/-! ## The operations on the frame -/

/-- Settles O50: byte by byte the frame is its five fields, and equal bytes are equal numbers. -/
theorem checkComparesTheSumOfTheFirstFour : Obligations.CheckComparesTheSumOfTheFirstFour := by
  intro s b0 b1 b2 b3 b4
  obtain ⟨e0, e1, e2, e3, e4⟩ := rawByte_frameOfInt b0 b1 b2 b3 b4
  have sum := toNat_checksumOf (frameOfInt b0 b1 b2 b3 b4)
  rw [e0, e1, e2, e3] at sum
  have value : checksumOf (frameOfInt b0 b1 b2 b3 b4) =
      BitVec.ofNat 8 ((b0.toNat + b1.toNat + b2.toNat + b3.toNat) % 256) := by
    rw [← sum, BitVec.ofNat_toNat, BitVec.setWidth_eq]
  have pass : checksumOf (frameOfInt b0 b1 b2 b3 b4) = rawByte (frameOfInt b0 b1 b2 b3 b4) 4 ↔
      ¬ (b0.toNat + b1.toNat + b2.toNat + b3.toNat) % 256 ≠ b4.toNat := by
    rw [e4, ← BitVec.toNat_inj, sum, not_not]
  have check : ∀ f : Frame, exec .check { s with sr := f } = .next (
      if checksumOf f = rawByte f 4 then { s with sr := f, phase := .interp }
      else { s with sr := f, ckExp := rawByte f 4, ckCalc := checksumOf f }.abortWith .checksumMismatch) :=
    fun _ => rfl
  refine (check (frameOfInt b0 b1 b2 b3 b4)).trans (congrArg Host.Outcome.next ?_)
  by_cases h : (b0.toNat + b1.toNat + b2.toNat + b3.toNat) % 256 ≠ b4.toNat
  · rw [if_pos h, if_neg (fun e => pass.1 e h), e4, value]
    rfl
  · rw [if_neg h, if_pos (pass.2 h)]
    rfl

/-- Settles O51: bytes 0 and 2 of the frame are its fields h and t. -/
theorem interpIntScalesWholeUnits : Obligations.InterpIntScalesWholeUnits := by
  intro s h x t y c
  obtain ⟨e0, -, e2, -, -⟩ := rawByte_frameOfInt h x t y c
  refine ⟨_, rfl, rfl, ?_, ?_⟩
  · exact (tenths_setWidth (rawByte (frameOfInt h x t y c) 0)).1.trans (by rw [e0])
  · exact (tenths_setWidth (rawByte (frameOfInt h x t y c) 2)).2.trans (by rw [e2])

end Sys2Proof.Machine
end

section
/-! PROOFS. The Reading: who writes HUM, TEMP and CODE = OK, what `read()` returns, the accessors and the host registers
(spec/10_state.md R41 to R47; 44_variant_decoders.md R198 to R203; 30_encoding.md R107). -/

namespace Sys2Proof.Machine

/-! ## Who writes the Reading -/

/-- From `s` to `u` no new Reading is recorded: HUM and TEMP stay, or they are cleared with CODE other than OK (R198,
R216). -/
def NoNewReading (s u : State) : Prop :=
  (u.hum = s.hum ∧ u.temp = s.temp ∧ (u.code = .ok → s.code = .ok)) ∨ (u.hum = 0#16 ∧ u.temp = 0#16 ∧ u.code ≠ .ok)

theorem noNewReading_of_same {s u : State} (hum : u.hum = s.hum) (temp : u.temp = s.temp) (code : u.code = s.code) :
    NoNewReading s u := .inl ⟨hum, temp, fun h => code ▸ h⟩

/-- The error exit records no Reading (R166). -/
theorem noNewReading_of_abort {s v : State} (e : ErrorKind) (hum : v.hum = s.hum) (temp : v.temp = s.temp) :
    NoNewReading s (v.abortWith e) := .inl ⟨hum, temp, fun h => absurd h (errorCode_ne_ok e)⟩

/-- The accept step clears the Reading (R150). -/
theorem noNewReading_acceptRead (s : State) : NoNewReading s (acceptRead s) := by
  rw [acceptRead_eq]
  split_ifs
  · exact .inr ⟨rfl, rfl, fun h => nomatch h⟩
  · exact .inr ⟨rfl, rfl, fun h => nomatch h⟩

/-- A waiting phase records no Reading when its Done action records none (R155). -/
theorem noNewReading_waitPhase (target : Level) (e : ErrorKind) (onDone : Byte → State → State) (s : State)
    (h : ∀ b t, (onDone b t).hum = t.hum ∧ (onDone b t).temp = t.temp ∧ (onDone b t).code = t.code) :
    NoNewReading s (waitPhase target e onDone s) := by
  rw [waitPhase_eq]
  split_ifs
  · exact noNewReading_of_abort _ rfl rfl
  · obtain ⟨hum, temp, code⟩ := h s.cnt { s with cnt := 0#8 }
    exact noNewReading_of_same hum temp code
  · exact noNewReading_of_abort _ rfl rfl
  · exact noNewReading_of_same rfl rfl rfl

/-- Only SUCCESS records a Reading. -/
theorem noNewReading_of_exec {i : Instr} {s u : State} (hi : i ≠ .success) (h : exec i s = .next u) :
    NoNewReading s u := by
  cases i
  case success => exact absurd rfl hi
  case read => cases h; exact noNewReading_acceptRead s
  case startLow =>
    cases (exec_startLow s).symm.trans h
    split_ifs
    · exact noNewReading_of_abort _ rfl rfl
    · exact noNewReading_of_same rfl rfl rfl
    · exact noNewReading_of_same rfl rfl rfl
  case startHigh =>
    cases (exec_startHigh s).symm.trans h
    split_ifs <;> exact noNewReading_of_same rfl rfl rfl
  case ackFall => cases h; exact noNewReading_waitPhase _ _ _ s fun _ _ => ⟨rfl, rfl, rfl⟩
  case ackRise => cases h; exact noNewReading_waitPhase _ _ _ s fun _ _ => ⟨rfl, rfl, rfl⟩
  case ackEnd => cases h; exact noNewReading_waitPhase _ _ _ s fun _ _ => ⟨rfl, rfl, rfl⟩
  case bitLow => cases h; exact noNewReading_waitPhase _ _ _ s fun _ _ => ⟨rfl, rfl, rfl⟩
  case bitHigh =>
    cases h
    refine noNewReading_waitPhase _ _ _ s fun b t => ?_
    unfold nextPair
    split_ifs <;> exact ⟨rfl, rfl, rfl⟩
  case check =>
    cases h
    split_ifs
    · exact noNewReading_of_same rfl rfl rfl
    · exact noNewReading_of_abort _ rfl rfl
  case range =>
    cases (execRange_eq s).symm.trans h
    split_ifs
    · exact noNewReading_of_abort _ rfl rfl
    · exact noNewReading_of_same rfl rfl rfl
  case cmdRead =>
    cases h
    split_ifs
    · exact noNewReading_of_same rfl rfl rfl
    · exact noNewReading_acceptRead s
  case waitStep target =>
    cases h
    rw [waitResult_eq]
    split_ifs <;> exact noNewReading_of_same rfl rfl rfl
  case delayStep =>
    cases h
    unfold delayResult
    split_ifs <;> exact noNewReading_of_same rfl rfl rfl
  case abort e => cases h; exact noNewReading_of_abort e rfl rfl
  all_goals (cases h; exact noNewReading_of_same rfl rfl rfl)

/-- SUCCESS commits the Reading (R198). -/
theorem exec_success (s : State) :
    exec .success s = .next { s with hum := s.hTmp, temp := s.tTmp, code := .ok, phase := .idle } := rfl

/-- Settles O54. -/
theorem successCommitsTheReading : Obligations.SuccessCommitsTheReading :=
  ⟨fun s => ⟨_, exec_success s, rfl, rfl, rfl, rfl⟩, fun _ _ _ hi h => noNewReading_of_exec hi h⟩

theorem phaseInstr_eq_success {p : Phase} {start : Bool} {v : Variant} (h : phaseInstr p start v = .success) :
    p = .success := by
  revert h; cases p <;> cases start <;> cases v <;> decide

/-- SUCCESS is selected in its own phase alone (R100). -/
theorem phase_of_fetch_success {s : State} (h : fetch s = .operation .success) : s.phase = .success := by
  obtain ⟨hi, -⟩ | hi | hi | hi := fetch_operation_cases h
  · exact phaseInstr_eq_success hi.symm
  · cases hi
  · cases hi
  · cases hi

/-- Settles O55: every step but SUCCESS's records no new Reading. -/
theorem readingIsCommittedWhole : Obligations.ReadingIsCommittedWhole := by
  intro s t ht changed
  have cleared : NoNewReading s t → t.hum = 0#16 ∧ t.temp = 0#16 ∧ t.code ≠ .ok := by
    rintro (⟨hum, temp, code⟩ | h)
    · obtain h | h | ⟨h, h'⟩ := changed
      · exact absurd hum h
      · exact absurd temp h
      · exact absurd (code h) h'
    · exact h
  obtain ⟨-, rfl⟩ | ⟨r, -, rfl⟩ | ⟨i, u, hi, hu, rfl⟩ := step_cases ht
  · exact .inr (cleared (.inr (by simp)))
  · exact .inr (cleared (noNewReading_of_same (by simp) (by simp) (by simp)))
  · by_cases success : i = .success
    · subst success
      cases (exec_success s).symm.trans hu
      exact .inl ⟨phase_of_fetch_success hi, by simp⟩
    · refine .inr (cleared ?_)
      simpa [NoNewReading] using noNewReading_of_exec success hu

/-! ## What `read()` returns -/

theorem readResult_eq_reading {s : State} {h t : Quantity} (hr : s.readResult = some (.reading h t)) :
    s.code = .ok ∧ h = ⟨(s.hum.toNat : Int), 10⟩ ∧ t = ⟨s.temp.toInt, 10⟩ := by
  unfold State.readResult at hr
  split at hr
  · cases hr
  · split at hr
    case h_2 hc => cases hr; exact ⟨hc, rfl, rfl⟩
    all_goals cases hr

/-- Settles O6: with CODE = OK the data invariant makes the Reading the frame's interpretation, and the state
invariant bounds its humidity. -/
theorem returnedReadingIsTheCapturedFrame : Obligations.ReturnedReadingIsTheCapturedFrame := by
  intro s h t inv data hr
  obtain ⟨code, hq, tq⟩ := readResult_eq_reading hr
  obtain ⟨-, packed, valid, hum, temp⟩ := data.reading code
  have bound := inv.hum_le code
  refine ⟨?_, hq, tq⟩
  rw [← packed, frameOutcome_eq, if_neg (not_not.2 valid), ← hum, ← temp, if_neg (Nat.not_lt.2 bound)]

/-! ## The accessors -/

/-- 18 * TEMP + 3200 fits the 32 bits of TEMPF (R46). -/
theorem toInt_tempfWord (s : State) : (tempfWord s).toInt = 18 * s.temp.toInt + 3200 := by
  have low := BitVec.le_toInt s.temp
  have high := BitVec.toInt_lt (x := s.temp)
  exact BitVec.toInt_ofInt_eq_self (by decide) (by unfold fahrenheitHundredths; omega)
    (by unfold fahrenheitHundredths; omega)

/-- Settles O57: the two narrower registers are extended without loss. -/
theorem accessorsDeliverExactQuantities : Obligations.AccessorsDeliverExactQuantities := by
  intro s
  obtain ⟨hum, temp, fahr⟩ := exec_accessor s
  refine ⟨⟨_, hum, ?_⟩, ⟨_, temp, ?_⟩, ⟨_, fahr, toInt_tempfWord s⟩⟩
  · exact BitVec.toNat_setWidth_of_le (by decide)
  · exact BitVec.toInt_signExtend_of_le (by decide)

/-- Settles O58: (18 T + 3200) / 100 = (T / 10) * 1.8 + 32. -/
theorem fahrenheitIsTheSourceFormula : Obligations.FahrenheitIsTheSourceFormula := by
  intro s t u w v c f ht hc hu hf
  obtain ⟨-, temp, fahr⟩ := exec_accessor s
  cases temp.symm.trans ht
  cases fahr.symm.trans hu
  cases hc
  cases hf
  simp only [Quantity.value, fahrenheitHundredths]
  push_cast
  ring

/-! ## The host registers -/

/-- STATUS's multi-bit fields stand where R41 puts them. -/
theorem statusWord_fields (s : State) :
    (statusWord s).extractLsb' 0 3 = s.code.bits ∧ (statusWord s).extractLsb' 8 4 = s.phase.code ∧
    (statusWord s).extractLsb' 12 4 = 0#4 ∧ (statusWord s).extractLsb' 16 6 = s.bitIdx ∧
    (statusWord s).extractLsb' 22 10 = 0#10 := by
  unfold statusWord
  simp (disch := decide) only [BitVec.extractLsb'_append_eq_of_le]
  exact ⟨BitVec.extractLsb'_append_eq_right, BitVec.extractLsb'_append_eq_right, BitVec.extractLsb'_append_eq_right,
    BitVec.extractLsb'_append_eq_right, BitVec.extractLsb'_eq_self⟩

/-- STATUS's flags stand where R41 puts them. -/
theorem statusWord_flags (s : State) :
    (statusWord s).getLsbD 3 = s.busy ∧ (statusWord s).getLsbD 4 = s.done ∧ (statusWord s).getLsbD 5 = s.valid ∧
    (statusWord s).getLsbD 6 = s.guard ∧ (statusWord s).getLsbD 7 = s.pinOut.bit.getLsbD 0 := by
  simp only [statusWord, BitVec.getLsbD_append]
  simp

theorem getLsbD_bit (l : Level) : l.bit.getLsbD 0 = decide (l = .high) := by cases l <;> rfl

/-- Settles O59: STATUS is the concatenation of its fields. -/
theorem statusShowsEveryField : Obligations.StatusShowsEveryField := by
  intro s
  obtain ⟨code, phase, zeros, bitIdx, zeros'⟩ := statusWord_fields s
  obtain ⟨busy, done, valid, guard, pin⟩ := statusWord_flags s
  exact ⟨code, busy, done, valid, guard, pin.trans (getLsbD_bit _), phase, zeros, bitIdx, zeros'⟩

/-- CFG's two bits (R42). -/
theorem cfgWord_fields (s : State) :
    (cfgWord s).getLsbD 0 = decide (s.cfg.variant = .fix) ∧
    (cfgWord s).getLsbD 1 = decide (s.cfg.guardImpl = .real) ∧ (cfgWord s).extractLsb' 2 30 = 0#30 := by
  unfold cfgWord
  refine ⟨?_, ?_, ?_⟩
  · rw [BitVec.getLsbD_append, if_pos (by decide)]
    cases s.cfg.variant <;> rfl
  · rw [BitVec.getLsbD_append, if_neg (by decide), BitVec.getLsbD_append, if_pos (by decide)]
    cases s.cfg.guardImpl <;> rfl
  · rw [BitVec.extractLsb'_append_eq_of_le (by decide)]
    exact BitVec.extractLsb'_append_eq_left

/-- CKSUM's two bytes (R43). -/
theorem cksumWord_fields (s : State) :
    (cksumWord s).extractLsb' 0 8 = s.ckExp ∧ (cksumWord s).extractLsb' 8 8 = s.ckCalc ∧
    (cksumWord s).extractLsb' 16 16 = 0#16 := by
  unfold cksumWord
  simp (disch := decide) only [BitVec.extractLsb'_append_eq_of_le]
  exact ⟨BitVec.extractLsb'_append_eq_right, BitVec.extractLsb'_append_eq_right, BitVec.extractLsb'_eq_self⟩

/-- Settles O60. -/
theorem configAndChecksumRegistersShowTheirFields : Obligations.ConfigAndChecksumRegistersShowTheirFields := by
  intro s
  obtain ⟨variant, guardImpl, zeros⟩ := cfgWord_fields s
  obtain ⟨ckExp, ckCalc, zeros'⟩ := cksumWord_fields s
  exact ⟨variant, guardImpl, zeros, ckExp, ckCalc, zeros', rfl, rfl⟩

end Sys2Proof.Machine
end

section
/-! PROOFS. Runs: one scripted tick after the other, a wait as long as the level is wrong, and whole waits, of the block
and of the pseudo-operations (spec/40_pulse_timer.md R125, R126; 42_sequencer.md R155, R168; 30_encoding.md R107). -/

namespace Sys2Proof.Machine

/-! ## Scripted ticks -/

theorem plainTick_iff (e : Event) : plainTick e = true ↔ ∃ inp, e = .tick inp ∧ inp.rst = false := by
  cases e <;> simp [plainTick]

theorem sampleOf_iff (l : Level) (e : Event) :
    sampleOf l e = true ↔ ∃ inp, e = .tick inp ∧ inp.rst = false ∧ inp.pinFault = false ∧ inp.pinIn = l := by
  cases e <;> simp [sampleOf, and_assoc]

/-- A run goes on from its first tick. -/
theorem runFor_tick {s u : State} {inp : Inputs} {rest : List Event} (k : Nat) (h : s.script = .tick inp :: rest)
    (hr : inp.rst = false) (hu : TickStep inp s u) :
    runFor (k + 1) s = runFor k { u with script := rest, tick := s.tick + 1 } :=
  runFor_succ k (hu.step_eq h hr)

/-- A run of one tick. -/
theorem runFor_one_tick {s u : State} {inp : Inputs} {rest : List Event} (h : s.script = .tick inp :: rest)
    (hr : inp.rst = false) (hu : TickStep inp s u) :
    runFor 1 s = .next { u with script := rest, tick := s.tick + 1 } := runFor_tick 0 h hr hu

theorem otherLevel_ne (l : Level) : otherLevel l ≠ l := by cases l <;> decide

/-- The next count of a wait that is not at its bound. -/
theorem cnt_add_one_add (c : Byte) (n : Nat) : c + 1#8 + BitVec.ofNat 8 n = c + BitVec.ofNat 8 (n + 1) := by
  rw [BitVec.add_assoc, ← BitVec.ofNat_add, Nat.add_comm]

theorem cnt_ne_bound {c : Byte} {n : Nat} (h : c.toNat + (n + 1) ≤ 255) : c ≠ 255#8 ∧ (c + 1#8).toNat + n ≤ 255 := by
  constructor
  · rintro rfl
    simp at h
  · bv_omega

/-- The state after `n` wrong samples of a wait, with the events after them (R124). -/
def State.waited (s : State) (n : Nat) (rest : List Event) : State :=
  { s with cnt := s.cnt + BitVec.ofNat 8 n, script := rest, tick := s.tick + n }

/-- While the level is wrong a waiting phase counts its samples, and does nothing else (R124, R155). -/
theorem runFor_wrongLevel {target : Level} (wrong rest : List Event) (s : State)
    (hw : waitTarget s.phase = some target) (hc : s.cnt.toNat + wrong.length ≤ 255)
    (samples : ∀ e ∈ wrong, sampleOf (otherLevel target) e = true) (hs : s.script = wrong ++ rest) :
    runFor wrong.length s = .next (s.waited wrong.length rest) := by
  induction wrong generalizing s with
  | nil =>
    rw [List.nil_append] at hs
    simp [State.waited, ← hs]
  | cons e wrong ih =>
    obtain ⟨inp, rfl, hr, hf, hl⟩ := (sampleOf_iff _ e).1 (samples e List.mem_cons_self)
    obtain ⟨below, bound⟩ := cnt_ne_bound hc
    have tick := TickStep.wrongLevel hw hf (hl ▸ otherLevel_ne target) below
    refine (runFor_tick wrong.length hs hr tick).trans
      ((ih { s with cnt := s.cnt + 1#8, script := wrong ++ rest, tick := s.tick + 1 } hw bound
        (fun e he => samples e (List.mem_cons_of_mem _ he)) rfl).trans ?_)
    simp only [State.waited, cnt_add_one_add, List.length_cons, Nat.add_assoc, Nat.add_comm 1]

/-- What a level seen does, does not depend on the events to come. -/
theorem levelSeen_withScript (s : State) (l : List Event) (n : Nat) :
    levelSeen { s with script := l, tick := n } = { levelSeen s with script := l, tick := n } := by
  rcases s with ⟨_, phase⟩
  cases phase
  case bitHigh =>
    simp only [levelSeen]
    split_ifs <;> rfl
  all_goals rfl

/-- A wait that sees its level after at most 255 wrong samples (R125). -/
theorem runFor_wait_done {target : Level} (wrong rest : List Event) (e : Event) (s : State)
    (hw : waitTarget s.phase = some target) (hc : s.cnt = 0#8) (bound : wrong.length ≤ 255)
    (samples : ∀ e ∈ wrong, sampleOf (otherLevel target) e = true) (seen : sampleOf target e = true)
    (hs : s.script = wrong ++ e :: rest) :
    runFor (wrong.length + 1) s = .next { levelSeen { s with cnt := BitVec.ofNat 8 wrong.length } with
      script := rest, tick := s.tick + (wrong.length + 1) } := by
  obtain ⟨inp, rfl, hr, hf, rfl⟩ := (sampleOf_iff _ e).1 seen
  have waited := runFor_wrongLevel wrong _ s hw (by rw [hc]; simpa using bound) samples hs
  have tick := TickStep.of_levelSeen (s := s.waited wrong.length (.tick inp :: rest)) hw hf
  rw [runFor_add _ 1 waited, runFor_one_tick rfl hr tick]
  unfold State.waited
  rw [levelSeen_withScript { s with cnt := s.cnt + BitVec.ofNat 8 wrong.length }, hc, BitVec.zero_add, Nat.add_assoc]

/-- Settles O42: 255 wrong samples bring CNT to its bound, the 256th passes it. -/
theorem wrongLevelFor256SamplesExpires : Obligations.WrongLevelFor256SamplesExpires := by
  intro s target wrong rest hw hc length samples hs
  obtain rfl | ⟨first, last, rfl⟩ := List.eq_nil_or_concat' wrong
  · cases length
  have length' : first.length = 255 := by simpa using length
  rw [List.append_assoc] at hs
  have waited := runFor_wrongLevel first _ s hw (by rw [hc, length']; decide)
    (fun e he => samples e (List.mem_append_left _ he)) hs
  obtain ⟨inp, rfl, hr, hf, hl⟩ := (sampleOf_iff _ last).1 (samples last (by simp))
  have bound : (s.waited first.length (.tick inp :: rest)).cnt = 255#8 := by
    rw [State.waited, hc, length']
    rfl
  have tick := TickStep.expire (s := s.waited first.length (.tick inp :: rest)) hw hf (hl ▸ otherLevel_ne target) bound
  rw [length'] at waited tick bound
  refine ⟨_, (runFor_add _ 1 waited).trans (runFor_one_tick rfl hr tick), rfl, ?_⟩
  rw [← bound]
  rfl

/-! ## One pair -/

/-- A pair's two counts stored in the entry of BITIDX (R159, R160). -/
def State.pairStored (s : State) (low high : Byte) : State :=
  (s.setPulseLow s.bitIdx.toNat low).setPulseHigh s.bitIdx.toNat high

/-- The stored pair reads back, and every other entry reads as before. -/
theorem pulseAt_pairStored (s : State) (low high : Byte) (j : Nat) (hi : s.bitIdx.toNat < 40) :
    (s.pairStored low high).pulseAt j = if j = s.bitIdx.toNat then ⟨low, high⟩ else s.pulseAt j := by
  rw [State.pairStored, pulseAt_setPulseHigh _ _ _ _ hi, pulseAt_setPulseLow _ _ _ _ hi, if_pos rfl,
    pulseAt_setPulseLow _ _ _ _ hi]
  split_ifs <;> rfl

/-- A pair's low level and its high level, up to 256 ticks each, are stored less one, and the next pair or DECIDE
follows (R168). -/
theorem runFor_pair {s : State} {lows highs rest : List Event} {rise fall : Event} (hp : s.phase = .bitLow)
    (hc : s.cnt = 0#8) (hlow : lows.length ≤ 255) (hhigh : highs.length ≤ 255)
    (low : ∀ e ∈ lows, sampleOf .low e = true) (hrise : sampleOf .high rise = true)
    (high : ∀ e ∈ highs, sampleOf .high e = true) (hfall : sampleOf .low fall = true)
    (hs : s.script = lows ++ rise :: (highs ++ fall :: rest)) :
    runFor (lows.length + highs.length + 2) s = .next { nextPair (s.pairStored (BitVec.ofNat 8 lows.length)
        (BitVec.ofNat 8 highs.length)) with
      cnt := 0#8, script := rest, tick := s.tick + (lows.length + highs.length + 2) } := by
  have risen := runFor_wait_done (target := .high) lows _ rise s (by rw [hp]; rfl) hc hlow low hrise hs
  rw [levelSeen_of_bitLow (s := { s with cnt := BitVec.ofNat 8 lows.length }) hp] at risen
  have fallen := runFor_wait_done (target := .low) highs rest fall
    { s.setPulseLow s.bitIdx.toNat (BitVec.ofNat 8 lows.length) with
      cnt := 0#8, phase := .bitHigh, script := highs ++ fall :: rest, tick := s.tick + (lows.length + 1) }
    rfl rfl hhigh high hfall rfl
  rw [levelSeen_of_bitHigh rfl] at fallen
  rw [show lows.length + highs.length + 2 = lows.length + 1 + (highs.length + 1) by omega,
    runFor_add _ _ risen, ← Nat.add_assoc s.tick (lows.length + 1) (highs.length + 1)]
  refine fallen.trans ?_
  by_cases last : s.bitIdx = 39#6
  · rw [if_pos (by exact last), nextPair, if_pos (by exact last)]
    rfl
  · rw [if_neg (by exact last), nextPair, if_neg (by exact last)]
    rfl

/-- Settles O43. -/
theorem pairDurationsAreStoredLessOne : Obligations.PairDurationsAreStoredLessOne := by
  intro s lows highs rest rise fall hp hc hi hlow hhigh low hrise high hfall hs
  refine ⟨_, runFor_pair hp hc hlow hhigh low hrise high hfall hs, rfl, fun j _ => ?_, ?_⟩
  · refine Eq.trans ?_ (pulseAt_pairStored s _ _ j (Nat.lt_succ_of_le hi))
    unfold nextPair
    split_ifs <;> rfl
  · by_cases last : s.bitIdx = 39#6
    · rw [if_pos last, nextPair, if_pos (by exact last), ← hc]
      rfl
    · rw [if_neg last, nextPair, if_neg (by exact last), ← hc, ← hp]
      rfl

/-! ## The pseudo-operations -/

theorem waitLoop_of_cont {target : Level} {s : State} (fuel : Nat) (h : waitResult target s = .cont) :
    waitLoop target (fuel + 1) s = waitLoop target fuel (s.afterWait .cont).passTick := by
  simp only [waitLoop, h]

theorem waitLoop_of_end {target : Level} {s : State} {r : WaitResult} (fuel : Nat) (h : waitResult target s = r)
    (hr : r ≠ .cont) : waitLoop target (fuel + 1) s = (r, (s.afterWait r).passTick) := by
  subst h
  rw [waitLoop]
  split
  · next h => exact absurd h hr
  · rfl

/-- The next tick of a script that begins with one. -/
theorem passTick_of_tick {s : State} {inp : Inputs} {rest : List Event} (h : s.script = .tick inp :: rest) :
    s.passTick = { s with script := rest, tick := s.tick + 1 } := by
  rw [State.passTick, h]
  rfl

/-- While the level is wrong the run of WAIT_STEPs goes on (R124). -/
theorem waitLoop_wrongLevel {target : Level} (fuel : Nat) (wrong rest : List Event) (s : State)
    (hc : s.cnt.toNat + wrong.length ≤ 255) (samples : ∀ e ∈ wrong, sampleOf (otherLevel target) e = true)
    (hs : s.script = wrong ++ rest) :
    waitLoop target (wrong.length + fuel) s = waitLoop target fuel (s.waited wrong.length rest) := by
  induction wrong generalizing s with
  | nil =>
    rw [List.nil_append] at hs
    simp [State.waited, ← hs]
  | cons e wrong ih =>
    obtain ⟨inp, rfl, -, hf, hl⟩ := (sampleOf_iff _ e).1 (samples e List.mem_cons_self)
    obtain ⟨below, bound⟩ := cnt_ne_bound hc
    have goesOn : waitResult target s = .cont := by
      rw [waitResult_eq, inputs_of_tick hs, if_neg (by simp [hf]), if_neg (hl ▸ otherLevel_ne target), if_neg below]
    rw [List.length_cons, Nat.add_right_comm, waitLoop_of_cont _ goesOn, passTick_of_tick (s := s.afterWait .cont) hs]
    refine (ih { s with cnt := s.cnt + 1#8, script := wrong ++ rest, tick := s.tick + 1 } bound
      (fun e he => samples e (List.mem_cons_of_mem _ he)) rfl).trans ?_
    simp only [State.waited, cnt_add_one_add, Nat.add_assoc, Nat.add_comm 1]

/-- A wait of at most 255 wrong samples ends by the result of the sample after them (R125). -/
theorem waitForLevel_eq {target : Level} {s : State} {wrong rest : List Event} {inp : Inputs} {r : WaitResult}
    (bound : wrong.length ≤ 255) (samples : ∀ e ∈ wrong, sampleOf (otherLevel target) e = true)
    (hs : s.script = wrong ++ .tick inp :: rest)
    (h : waitResult target (State.waited { s with cnt := 0#8 } wrong.length (.tick inp :: rest)) = r)
    (hr : r ≠ .cont) :
    waitForLevel target s =
      (r, ((State.waited { s with cnt := 0#8 } wrong.length (.tick inp :: rest)).afterWait r).passTick) := by
  have fuel : 256 = wrong.length + (255 - wrong.length + 1) := by omega
  rw [waitForLevel, fuel, waitLoop_wrongLevel _ wrong _ { s with cnt := 0#8 } (by simpa using bound) samples hs,
    waitLoop_of_end _ h hr]

/-- Settles O22: the sample after the wrong ones decides; the 256th wrong one finds CNT at its bound. -/
theorem waitReturnsTheFirstMatch : Obligations.WaitReturnsTheFirstMatch := by
  intro target s wrong rest samples
  refine ⟨fun e bound seen hs => ?_, fun length hs => ?_, fun inp bound hf hs => ?_⟩
  · obtain ⟨inp, rfl, -, hf, rfl⟩ := (sampleOf_iff _ e).1 seen
    have result : waitResult inp.pinIn (State.waited { s with cnt := 0#8 } wrong.length (.tick inp :: rest)) =
        .done (BitVec.ofNat 8 wrong.length) := by
      rw [waitResult_eq, inputs_of_tick rfl, if_neg (by simp [hf]), if_pos rfl, State.waited, BitVec.zero_add]
    exact waitForLevel_eq bound samples hs result (fun e => nomatch e)
  · obtain rfl | ⟨first, last, rfl⟩ := List.eq_nil_or_concat' wrong
    · cases length
    have length' : first.length = 255 := by simpa using length
    rw [List.append_assoc] at hs
    obtain ⟨inp, rfl, -, hf, hl⟩ := (sampleOf_iff _ last).1 (samples last (by simp))
    have result : waitResult target (State.waited { s with cnt := 0#8 } first.length (.tick inp :: rest)) =
        .expired := by
      rw [waitResult_eq, inputs_of_tick rfl, if_neg (by simp [hf]), if_neg (hl ▸ otherLevel_ne target), length']
      rfl
    rw [waitForLevel_eq length'.le (fun e he => samples e (List.mem_append_left _ he)) hs result
      (fun e => nomatch e), length']
    rfl
  · have result : waitResult target (State.waited { s with cnt := 0#8 } wrong.length (.tick inp :: rest)) = .fault := by
      rw [waitResult_eq, inputs_of_tick rfl, if_pos hf]
    rw [waitForLevel_eq bound samples hs result (fun e => nomatch e), afterWait_fault_eq, passTick_of_tick rfl,
      State.waited, BitVec.zero_add]

/-- DELAY_STEP reports Done once DLY has counted down, one tick later than the ticks it counted (R126). -/
theorem delayLoop_eq (d : Nat) (s : State) (h : s.dly.toNat = d) :
    (delayLoop (d + 1) s).1 = .done ∧ (delayLoop (d + 1) s).2.tick = s.tick + (d + 1) ∧
    (delayLoop (d + 1) s).2.registers = { s with dly := 0#15 }.registers := by
  induction d generalizing s with
  | zero =>
    have zero : s.dly = 0#15 := BitVec.eq_of_toNat_eq h
    have result : delayResult s = .done := if_pos zero
    simp only [delayLoop, result]
    exact ⟨trivial, rfl, by rw [← zero]; rfl⟩
  | succ d ih =>
    have running : s.dly ≠ 0#15 := by
      intro e
      rw [e] at h
      cases h
    have result : delayResult s = .cont := if_neg running
    have counted := ih (s.afterDelay .cont).passTick (by
      rw [passTick_dly, afterDelay_cont_dly, (toNat_dly_sub_one running).1, h]; rfl)
    rw [delayLoop]
    simp only [result]
    obtain ⟨done, tick, registers⟩ := counted
    refine ⟨done, tick.trans ?_, registers⟩
    rw [passTick_tick, afterDelay_cont_tick]
    omega

/-- Settles O23: n - 1 is loaded, and a legal n is at least 1 (R5, R107). -/
theorem delayLastsExactlyItsTicks : Obligations.DelayLastsExactlyItsTicks := by
  intro n s
  have legal := n.legal
  have ticks : n.ticks = n.ticks - 1 + 1 := by omega
  have counted := delayLoop_eq (n.ticks - 1) { s with dly := holdPreload n } (holdPreload_toNat n)
  rw [← ticks] at counted
  exact counted

end Sys2Proof.Machine
end

section
/-! PROOFS. The start signal: the accept step, the two holds and the closing tick, as runs of the block
(spec/42_sequencer.md R150 to R154; 70_reset_and_hazards.md R257). -/

namespace Sys2Proof.Machine

/-! ## The start signal -/

/-- The state after `n` ticks of a hold, with the events after them (R126). -/
def State.held (s : State) (n : Nat) (rest : List Event) : State :=
  { s with dly := s.dly - BitVec.ofNat 15 n, script := rest, tick := s.tick + n }

theorem toNat_held_dly (s : State) {n : Nat} (rest : List Event) (hn : n ≤ s.dly.toNat) :
    (s.held n rest).dly.toNat = s.dly.toNat - n := by
  have := s.dly.isLt
  simp only [State.held]
  bv_omega

/-- As long as DLY runs, a hold counts down and does nothing else, whatever the inputs (R153, R154). -/
theorem runFor_hold (ticks rest : List Event) (s : State) (hp : s.phase = .startLow ∨ s.phase = .startHigh)
    (plain : ∀ e ∈ ticks, plainTick e = true) (hn : ticks.length ≤ s.dly.toNat) (hs : s.script = ticks ++ rest) :
    runFor ticks.length s = .next (s.held ticks.length rest) := by
  induction ticks generalizing s with
  | nil =>
    rw [List.nil_append] at hs
    simp [State.held, ← hs]
  | cons e ticks ih =>
    obtain ⟨inp, rfl, hr⟩ := (plainTick_iff e).1 (plain e List.mem_cons_self)
    have running : s.dly ≠ 0#15 := by
      intro h
      rw [h] at hn
      cases hn
    have pred := (toNat_dly_sub_one running).1
    refine (runFor_tick ticks.length hs hr (.hold hp running)).trans
      ((ih { s with dly := s.dly - 1#15, script := ticks ++ rest, tick := s.tick + 1 } hp
        (fun e he => plain e (List.mem_cons_of_mem _ he)) ?_ rfl).trans ?_)
    · exact pred ▸ Nat.le_pred_of_lt hn
    · simp only [State.held, List.length_cons, Nat.add_assoc, Nat.add_comm 1, sub_sub, BitVec.ofNat_add,
        add_comm (1#15)]

/-- The state after an accept step without fault, with the events after it (R150). -/
def State.accepted (s : State) (rest : List Event) : State :=
  { s.clearedForRead.disableGuard.drivePin .low with
    dly := holdPreload s.cfg.tStartLow, phase := .startLow, script := rest, tick := s.tick + 1 }

/-- The state after START_LOW's release, with the events after it (R153). -/
def State.released (s : State) (rest : List Event) : State :=
  { s.drivePin .high with
    dly := holdPreload s.cfg.tStartHigh, phase := .startHigh, script := rest, tick := s.tick + 1 }

/-- The state after START_HIGH, with the events after it (R154). -/
def State.listening (s : State) (rest : List Event) : State :=
  { s with cnt := 0#8, phase := .ackFall, script := rest, tick := s.tick + 1 }

/-- `n` ticks into the first hold, with the events to come. -/
def State.inLow (s : State) (n : Nat) (rest : List Event) : State := (s.accepted []).held n rest

/-- `n` ticks into the second hold, with the events to come. -/
def State.inHigh (s : State) (n : Nat) (rest : List Event) : State :=
  ((s.inLow (s.cfg.tStartLow.ticks - 1) []).released []).held n rest

/-- A hold at its end has DLY = 0. -/
theorem held_dly_eq_zero {s : State} (n : Nat) (rest : List Event) (hn : s.dly.toNat = n) :
    (s.held n rest).dly = 0#15 := by
  refine BitVec.eq_of_toNat_eq ?_
  rw [toNat_held_dly s rest hn.ge, hn, Nat.sub_self]
  rfl

theorem inLow_end_dly (s : State) (rest : List Event) : (s.inLow (s.cfg.tStartLow.ticks - 1) rest).dly = 0#15 :=
  held_dly_eq_zero _ _ (holdPreload_toNat _)

theorem inHigh_end_dly (s : State) (rest : List Event) : (s.inHigh (s.cfg.tStartHigh.ticks - 1) rest).dly = 0#15 :=
  held_dly_eq_zero _ _ (holdPreload_toNat _)

/-- A start signal that is scripted through: the accept tick, the first hold's ticks, the release, the second hold's
ticks, its closing tick, and the events after them. -/
structure StartSignal (s : State) (a b c : Inputs) (low high rest : List Event) : Prop where
  idle : s.phase = .idle
  script : s.script = .tick a :: (low ++ .tick b :: (high ++ .tick c :: rest))
  plain : ∀ e ∈ s.script, plainTick e = true
  start : a.start = true
  accepted : a.pinFault = false
  released : b.pinFault = false
  low_length : low.length = s.cfg.tStartLow.ticks - 1
  high_length : high.length = s.cfg.tStartHigh.ticks - 1

section
variable {s : State} {a b c : Inputs} {low high rest : List Event} (h : StartSignal s a b c low high rest)
include h

theorem StartSignal.rst : a.rst = false ∧ b.rst = false ∧ c.rst = false := by
  have plain := h.plain
  rw [h.script] at plain
  simp only [List.mem_cons, List.mem_append] at plain
  simpa [plainTick] using And.intro (plain (.tick a) (by simp)) (And.intro (plain (.tick b) (by simp))
    (plain (.tick c) (by simp)))

theorem StartSignal.plain_low : ∀ e ∈ low, plainTick e = true :=
  fun e he => h.plain e (by rw [h.script]; simp [he])

theorem StartSignal.plain_high : ∀ e ∈ high, plainTick e = true :=
  fun e he => h.plain e (by rw [h.script]; simp [he])

/-- The accept step and the first ticks of the first hold. -/
theorem StartSignal.runFor_inLow {n : Nat} (hn : n ≤ low.length) : runFor (n + 1) s =
    .next (s.inLow n (low.drop n ++ .tick b :: (high ++ .tick c :: rest))) := by
  have length : (low.take n).length = n := by simpa using hn
  have within : (low.take n).length ≤ (holdPreload s.cfg.tStartLow).toNat := by
    rw [length, holdPreload_toNat, ← h.low_length]
    exact hn
  have script : low ++ .tick b :: (high ++ .tick c :: rest) =
      low.take n ++ (low.drop n ++ .tick b :: (high ++ .tick c :: rest)) := by
    rw [← List.append_assoc, List.take_append_drop]
  have accept := TickStep.accept h.idle h.start h.accepted
  have hold := runFor_hold (low.take n) _ (s.accepted (low ++ .tick b :: (high ++ .tick c :: rest))) (.inl rfl)
    (fun e he => h.plain_low e (List.mem_of_mem_take he)) within script
  rw [length] at hold
  exact (runFor_tick n h.script h.rst.1 accept).trans hold

/-- The release and the first ticks of the second hold. -/
theorem StartSignal.runFor_inHigh {n : Nat} (hn : n ≤ high.length) : runFor (s.cfg.tStartLow.ticks + (n + 1)) s =
    .next (s.inHigh n (high.drop n ++ .tick c :: rest)) := by
  have length : (high.take n).length = n := by simpa using hn
  have within : (high.take n).length ≤ (holdPreload s.cfg.tStartHigh).toNat := by
    rw [length, holdPreload_toNat, ← h.high_length]
    exact hn
  have script : high ++ .tick c :: rest = high.take n ++ (high.drop n ++ .tick c :: rest) := by
    rw [← List.append_assoc, List.take_append_drop]
  have ticks : low.length + 1 = s.cfg.tStartLow.ticks := by
    have := s.cfg.tStartLow.legal
    rw [h.low_length]
    omega
  have first := h.runFor_inLow le_rfl
  rw [List.drop_length, List.nil_append, ticks, h.low_length] at first
  have release := TickStep.release (s := s.inLow (s.cfg.tStartLow.ticks - 1) (.tick b :: (high ++ .tick c :: rest))) rfl
    (inLow_end_dly s _) h.released
  have hold := runFor_hold (high.take n) _
    ((s.inLow (s.cfg.tStartLow.ticks - 1) []).released (high ++ .tick c :: rest)) (.inr rfl)
    (fun e he => h.plain_high e (List.mem_of_mem_take he)) within script
  rw [length] at hold
  exact (runFor_add _ (n + 1) first).trans ((runFor_tick n rfl h.rst.2.1 release).trans hold)

/-- The whole start signal. -/
theorem StartSignal.runFor_listening : runFor (s.cfg.tStartLow.ticks + s.cfg.tStartHigh.ticks + 1) s =
    .next ((s.inHigh (s.cfg.tStartHigh.ticks - 1) []).listening rest) := by
  have ticks : high.length + 1 = s.cfg.tStartHigh.ticks := by
    have := s.cfg.tStartHigh.legal
    rw [h.high_length]
    omega
  have second := h.runFor_inHigh le_rfl
  rw [List.drop_length, List.nil_append, ticks, h.high_length] at second
  have listen := TickStep.listen (inp := c) (s := s.inHigh (s.cfg.tStartHigh.ticks - 1) (.tick c :: rest)) rfl
    (inHigh_end_dly s _)
  exact (runFor_add _ 1 second).trans (runFor_one_tick rfl h.rst.2.2 listen)

end

/-- A list around one of its entries. -/
theorem exists_append_cons_of_getElem? {α : Type} {l : List α} {n : Nat} {x : α} (h : l[n]? = some x) :
    ∃ before after, l = before ++ x :: after ∧ before.length = n := by
  obtain ⟨hn, rfl⟩ := List.getElem?_eq_some_iff.1 h
  refine ⟨l.take n, l.drop (n + 1), ?_, List.length_take_of_le hn.le⟩
  rw [← List.drop_eq_getElem_cons hn, List.take_append_drop]

/-- A long enough script of plain ticks that begins with an accept step and does not fail the release is a start
signal scripted through. -/
theorem exists_startSignal {s : State} {a b : Inputs} (hp : s.phase = .idle)
    (plain : ∀ e ∈ s.script, plainTick e = true)
    (length : s.cfg.tStartLow.ticks + s.cfg.tStartHigh.ticks + 2 ≤ s.script.length)
    (first : s.script[0]? = some (.tick a)) (hs : a.start = true) (hf : a.pinFault = false)
    (release : s.script[s.cfg.tStartLow.ticks]? = some (.tick b)) (hf' : b.pinFault = false) :
    ∃ c low high e rest, StartSignal s a b c low high (e :: rest) := by
  obtain ⟨hl, -⟩ := s.cfg.tStartLow.legal
  obtain ⟨hh, -⟩ := s.cfg.tStartHigh.legal
  obtain ⟨before, after, script, none⟩ := exists_append_cons_of_getElem? release
  cases before with
  | nil => rw [List.length_nil] at none; omega
  | cons e low =>
    obtain rfl : e = .tick a := by simpa [script] using first
    rw [script, List.length_append, none, List.length_cons] at length
    have inside : s.cfg.tStartHigh.ticks - 1 < after.length := by omega
    obtain ⟨high, more, rest, high_length⟩ := exists_append_cons_of_getElem? (List.getElem?_eq_getElem inside)
    obtain ⟨c, closing, -⟩ := (plainTick_iff _).1 (plain after[s.cfg.tStartHigh.ticks - 1]
      (by rw [script]; simp))
    rw [closing] at rest
    cases more with
    | nil => rw [rest, List.length_append, List.length_singleton] at length; omega
    | cons e more =>
      exact ⟨c, low, high, e, more, hp, by rw [script, rest]; rfl, plain, hs, hf, hf', Nat.eq_sub_of_add_eq none,
        high_length⟩

/-- A tick of a script of plain ticks is without reset, wherever the run is in it. -/
theorem rst_of_suffix {s t : State} (plain : ∀ e ∈ s.script, plainTick e = true) (suffix : t.script <:+ s.script)
    (more : t.script ≠ []) : t.inputs.rst = false := by
  obtain ⟨e, rest, ht⟩ := List.exists_cons_of_ne_nil more
  obtain ⟨inp, rfl, hr⟩ := (plainTick_iff e).1 (plain e (suffix.subset (by rw [ht]; exact List.mem_cons_self)))
  rw [inputs_of_tick ht, hr]

/-- What is left of a list in front of others is a suffix of the whole. -/
theorem drop_append_suffix {α : Type} (before l after : List α) (n : Nat) :
    l.drop n ++ after <:+ before ++ (l ++ after) := by
  refine ⟨before ++ l.take n, ?_⟩
  rw [List.append_assoc, ← List.append_assoc (l.take n), List.take_append_drop]

section
variable {s : State} {a b c : Inputs} {low high rest : List Event} (h : StartSignal s a b c low high rest)
include h

/-- In the first hold `pin_op` announces nothing, but at its end the release (R153). -/
theorem StartSignal.pinOp_inLow {n : Nat} (hn : n + 1 ≤ s.cfg.tStartLow.ticks) :
    (s.inLow n (low.drop n ++ .tick b :: (high ++ .tick c :: rest))).pinOp =
      if n + 1 = s.cfg.tStartLow.ticks then 3#2 else 0#2 := by
  have hr : (s.inLow n (low.drop n ++ .tick b :: (high ++ .tick c :: rest))).inputs.rst = false :=
    rst_of_suffix h.plain (h.script ▸ drop_append_suffix [Event.tick a] low _ n) (by simp [State.inLow, State.held])
  have preload : (s.accepted []).dly.toNat = s.cfg.tStartLow.ticks - 1 := holdPreload_toNat _
  split_ifs with last
  · exact pinOp_of_release hr rfl (held_dly_eq_zero n _ (by rw [preload]; omega))
  · refine pinOp_of_hold (.inl rfl) fun zero => ?_
    have count := toNat_held_dly (s.accepted []) (low.drop n ++ .tick b :: (high ++ .tick c :: rest)) (n := n)
      (by rw [preload]; omega)
    rw [show ((s.accepted []).held n _).dly = 0#15 from zero, preload, BitVec.toNat_zero] at count
    omega

/-- After the start signal the wait for the acknowledgement samples the pin (R98, R154). -/
theorem StartSignal.pinOp_listening (more : rest ≠ []) :
    ((s.inHigh (s.cfg.tStartHigh.ticks - 1) []).listening rest).pinOp = 1#2 := by
  refine pinOp_of_waiting (target := .low) (rst_of_suffix h.plain ⟨?_, ?_⟩ more) rfl
  · exact .tick a :: (low ++ .tick b :: (high ++ [.tick c]))
  · rw [h.script]
    simp [State.listening]

end

/-- Settles O44: the holds preload T - 1, so the release and the end of the second hold fall on the ticks that find
DLY = 0. -/
theorem holdsLastExactlyTheirTicks : Obligations.HoldsLastExactlyTheirTicks := by
  intro s a b hp plain length first hs hf release hf'
  obtain ⟨c, low, high, e, rest, signal⟩ := exists_startSignal hp plain length first hs hf release hf'
  refine ⟨fun k h1 hk => ?_, fun k h1 hk => ?_, ?_⟩
  · obtain ⟨n, rfl⟩ := Nat.exists_eq_add_of_le' h1
    have run := signal.runFor_inLow (n := n) (by rw [signal.low_length]; omega)
    exact ⟨_, run, rfl, rfl, signal.pinOp_inLow hk⟩
  · obtain ⟨n, rfl⟩ := Nat.exists_eq_add_of_lt h1
    have run := signal.runFor_inHigh (n := n) (by rw [signal.high_length]; omega)
    exact ⟨_, run, rfl, rfl, pinOp_of_none rfl (fun e => nomatch e) (fun e => nomatch e) rfl⟩
  · exact ⟨_, signal.runFor_listening, rfl, rfl, rfl, signal.pinOp_listening (List.cons_ne_nil _ _)⟩

end Sys2Proof.Machine
end

section
/-! PROOFS. From the pairs to the outcome: the phases CHECK to SUCCESS as a run, and a read that receives any frame
(spec/43_frame_checksum.md R183; 44_variant_decoders.md R190 to R198; 95_test_vectors.md section 5). -/

namespace Sys2Proof.Machine

/-! ## CHECK to SUCCESS -/

/-- Settles O56: one tick per phase, and `frameOutcome_eq` says which way each goes. -/
theorem decodePathComputesTheFrameOutcome : Obligations.DecodePathComputesTheFrameOutcome := by
  intro s ticks rest hp length plain hs
  obtain ⟨e1, e2, e3, e4, rfl⟩ : ∃ e1 e2 e3 e4, ticks = [e1, e2, e3, e4] := List.length_eq_four.1 length
  obtain ⟨i1, rfl, hr1⟩ := (plainTick_iff e1).1 (plain _ (by simp))
  obtain ⟨i2, rfl, hr2⟩ := (plainTick_iff e2).1 (plain _ (by simp))
  obtain ⟨i3, rfl, hr3⟩ := (plainTick_iff e3).1 (plain _ (by simp))
  obtain ⟨i4, rfl, hr4⟩ := (plainTick_iff e4).1 (plain _ (by simp))
  rw [frameOutcome_eq]
  by_cases valid : checksumOf s.sr = rawByte s.sr 4
  · rw [if_neg (not_not.2 valid)]
    have toRange : ∀ k, runFor (k + 2) s = runFor k { s with
        hTmp := interpHum s.cfg.variant s.sr, tTmp := interpTemp s.cfg.variant s.sr, phase := .range
        script := .tick i3 :: .tick i4 :: rest, tick := s.tick + 1 + 1 } := fun k =>
      (runFor_tick (k + 1) hs hr1 (.checkPass hp valid)).trans (runFor_tick k rfl hr2 (.interp rfl))
    by_cases high : 1000 < (interpHum s.cfg.variant s.sr).toNat
    · rw [if_pos high]
      exact ⟨_, (toRange 1).trans (runFor_one_tick rfl hr3 (.rangeFail rfl high)), rfl, rfl, rfl, rfl, rfl⟩
    · rw [if_neg high]
      exact ⟨_, (toRange 2).trans ((runFor_tick 1 rfl hr3 (.rangePass rfl (Nat.le_of_not_lt high))).trans
        (runFor_one_tick rfl hr4 (.success rfl))), rfl, rfl, rfl, rfl, rfl⟩
  · rw [if_pos valid]
    exact ⟨_, runFor_one_tick hs hr1 (.checkFail hp valid), rfl, rfl, rfl, rfl, rfl, rfl, rfl⟩

/-! ## A frame on the wire -/

/-- A tick without reset or pin fault at which the line has the given level. -/
def sampleTick (l : Level) : Event := .tick ⟨false, false, l, false⟩

theorem sampleOf_sampleTick (l : Level) : sampleOf l (sampleTick l) = true := by cases l <;> rfl

/-- How long the line stays high beyond its first tick for a bit (30_encoding.md R91). -/
def highTicks (b : Bool) : List Event := if b then [sampleTick .high] else []

theorem length_highTicks (b : Bool) : (highTicks b).length = b.toNat := by cases b <;> rfl

theorem sampleOf_highTicks (b : Bool) : ∀ e ∈ highTicks b, sampleOf .high e = true := by cases b <;> decide

/-- The shortest pair that stands for a bit: it rises at once, and falls one tick later for 1 than for 0. -/
def pairTicks (b : Bool) : List Event := sampleTick .high :: (highTicks b ++ [sampleTick .low])

/-- The pairs of bits 0 to n - 1, in their order. -/
def pairsTicks (bit : Nat → Bool) (n : Nat) : List Event := (List.range n).flatMap fun i => pairTicks (bit i)

theorem pairsTicks_succ (bit : Nat → Bool) (n : Nat) :
    pairsTicks bit (n + 1) = pairsTicks bit n ++ pairTicks (bit n) := by
  simp [pairsTicks, List.range_succ]

/-- The state after the pairs of the first `n` bits: they decide to these bits, and nothing is recorded. -/
structure Captured (bit : Nat → Bool) (n : Nat) (t : State) : Prop where
  phase : t.phase = if n < 40 then .bitLow else .decideBits
  cnt : t.cnt = 0#8
  code : t.code = .none
  bitIdx : n < 40 → t.bitIdx.toNat = n
  pairs : ∀ j < n, (decide ((t.pulseAt j).low.toNat < (t.pulseAt j).high.toNat)) = bit j

/-- The end of a pair keeps the pulse buffer and CODE (R160). -/
theorem nextPair_keeps (t : State) : (nextPair t).pulse = t.pulse ∧ (nextPair t).code = t.code := by
  unfold nextPair
  split_ifs <;> exact ⟨rfl, rfl⟩

/-- The end of a pair moves on to the next one, or to DECIDE after the last (R160). -/
theorem nextPair_phase {t : State} {n : Nat} (h : t.bitIdx.toNat = n) (hn : n < 40) :
    (nextPair t).phase = (if n + 1 < 40 then .bitLow else .decideBits) ∧
      (n + 1 < 40 → (nextPair t).bitIdx.toNat = n + 1) := by
  unfold nextPair
  by_cases last : t.bitIdx = 39#6
  · have : n = 39 := by rw [← h, last]; rfl
    rw [if_pos last, if_neg (by omega)]
    exact ⟨rfl, fun _ => by omega⟩
  · obtain ⟨succ, below⟩ := toNat_bitIdx_add_one (by omega) last
    rw [if_neg last, if_pos (by omega)]
    exact ⟨rfl, fun _ => succ.trans (by rw [h])⟩

/-- The next pair adds the next bit. -/
theorem Captured.pair {bit : Nat → Bool} {n : Nat} {s : State} {rest : List Event} (h : Captured bit n s)
    (hn : n < 40) (hs : s.script = pairTicks (bit n) ++ rest) :
    ∃ t, runFor (pairTicks (bit n)).length s = .next t ∧ t.script = rest ∧ Captured bit (n + 1) t := by
  have phase : s.phase = .bitLow := by rw [h.phase, if_pos hn]
  have idx := h.bitIdx hn
  have length : (pairTicks (bit n)).length = ([] : List Event).length + (highTicks (bit n)).length + 2 := by
    simp [pairTicks]
  have run := runFor_pair (lows := []) (rest := rest) phase h.cnt (Nat.zero_le _)
    (by rw [length_highTicks]; exact (Bool.toNat_le _).trans (by decide)) (fun _ he => nomatch he)
    (sampleOf_sampleTick .high) (sampleOf_highTicks (bit n)) (sampleOf_sampleTick .low) (by rw [hs]; simp [pairTicks])
  have stored := fun j => pulseAt_pairStored s (BitVec.ofNat 8 ([] : List Event).length)
    (BitVec.ofNat 8 (highTicks (bit n)).length) j (by rw [idx]; exact hn)
  obtain ⟨pulse, code⟩ := nextPair_keeps (s.pairStored (BitVec.ofNat 8 ([] : List Event).length)
    (BitVec.ofNat 8 (highTicks (bit n)).length))
  obtain ⟨next, idx'⟩ := nextPair_phase (t := s.pairStored (BitVec.ofNat 8 ([] : List Event).length)
    (BitVec.ofNat 8 (highTicks (bit n)).length)) idx hn
  rw [length]
  refine ⟨_, run, rfl, next, rfl, code.trans h.code, idx', fun j hj => ?_⟩
  rw [State.pulseAt, pulse, ← State.pulseAt, stored j, idx]
  by_cases new : j = n
  · rw [if_pos new, new, length_highTicks]
    cases bit n <;> rfl
  · rw [if_neg new]
    exact h.pairs j (by omega)

/-- The pairs of up to 40 bits, from BIT_LOW of pair 0 on. -/
theorem Captured.pairs_run {bit : Nat → Bool} {s : State} (h : Captured bit 0 s) {n : Nat} (hn : n ≤ 40)
    (rest : List Event) (hs : s.script = pairsTicks bit n ++ rest) :
    ∃ t, runFor (pairsTicks bit n).length s = .next t ∧ t.script = rest ∧ Captured bit n t := by
  induction n generalizing rest with
  | zero => exact ⟨s, rfl, hs, h⟩
  | succ n ih =>
    rw [pairsTicks_succ, List.append_assoc] at hs
    obtain ⟨u, run, script, captured⟩ := ih (by omega) _ hs
    obtain ⟨t, run', script', captured'⟩ := captured.pair (by omega) script
    rw [pairsTicks_succ, List.length_append]
    exact ⟨t, (runFor_add _ _ run).trans run', script', captured'⟩

/-! ## A read that receives a frame -/

/-- The acknowledgement of a sensor: it pulls the line low, releases it and pulls it low again (R156 to R158). -/
theorem runFor_acknowledgement {s : State} {rest : List Event} (hp : s.phase = .ackFall) (hi : s.bitIdx = 0#6)
    (hc : s.code = .none)
    (hs : s.script = sampleTick .low :: sampleTick .high :: sampleTick .low :: rest) (bit : Nat → Bool) :
    ∃ t, runFor 3 s = .next t ∧ t.script = rest ∧ Captured bit 0 t := by
  refine ⟨_, (runFor_tick 2 hs rfl (.acknowledged (by rw [hp]; rfl) (by rw [hp]; rfl) (by rw [hp]; rfl) rfl)).trans
    ((runFor_tick 1 rfl rfl (.acknowledged rfl rfl rfl rfl)).trans
      (runFor_one_tick rfl rfl (.acknowledged rfl rfl rfl rfl))), rfl, rfl, rfl, hc, fun _ => ?_, fun j hj => ?_⟩
  · exact congrArg BitVec.toNat hi
  · cases hj

/-- Bit i in the order of arrival (20_memory.md R62). -/
def arriving (f : Frame) (i : Nat) : Bool := f.getLsbD (39 - i)

/-- What a sensor that sends `f` makes of the line: an acknowledgement and the pairs of the frame's bits; the last tick
is DECIDE's. -/
def sensorTicks (f : Frame) : List Event :=
  sampleTick .low :: sampleTick .high :: sampleTick .low :: (pairsTicks (arriving f) 40 ++ [sampleTick .high])

/-- An accept tick, the two holds with the line left alone, and a sensor that sends `f`. -/
def receiving (c : Config) (f : Frame) : List Event :=
  .tick ⟨false, true, .high, false⟩ :: (List.replicate (c.tStartLow.ticks - 1) (sampleTick .high) ++
    sampleTick .high :: (List.replicate (c.tStartHigh.ticks - 1) (sampleTick .high) ++
      sampleTick .high :: sensorTicks f))

theorem plainTick_pairTicks (b : Bool) : ∀ e ∈ pairTicks b, plainTick e = true := by cases b <;> decide

theorem plainTick_pairsTicks (bit : Nat → Bool) (n : Nat) : ∀ e ∈ pairsTicks bit n, plainTick e = true := by
  intro e he
  obtain ⟨i, -, he⟩ := List.mem_flatMap.1 he
  exact plainTick_pairTicks _ e he

theorem plainTick_sensorTicks (f : Frame) : ∀ e ∈ sensorTicks f, plainTick e = true := by
  intro e he
  simp only [sensorTicks, List.mem_cons, List.mem_append, List.not_mem_nil, or_false] at he
  obtain rfl | rfl | rfl | he | rfl := he
  · rfl
  · rfl
  · rfl
  · exact plainTick_pairsTicks _ _ e he
  · rfl

theorem startSignal_receiving (c : Config) (f : Frame) :
    StartSignal { State.reset with cfg := c, script := receiving c f } ⟨false, true, .high, false⟩
      ⟨false, false, .high, false⟩ ⟨false, false, .high, false⟩
      (List.replicate (c.tStartLow.ticks - 1) (sampleTick .high))
      (List.replicate (c.tStartHigh.ticks - 1) (sampleTick .high))
      (sensorTicks f) where
  idle := rfl
  script := rfl
  plain := by
    intro e he
    simp only [receiving, List.mem_cons, List.mem_append, List.mem_replicate] at he
    obtain rfl | ⟨-, rfl⟩ | rfl | ⟨-, rfl⟩ | rfl | he := he
    · rfl
    · rfl
    · rfl
    · rfl
    · rfl
    · exact plainTick_sensorTicks f e he
  start := rfl
  accepted := rfl
  released := rfl
  low_length := List.length_replicate
  high_length := List.length_replicate

/-- DECIDE packs the captured bits into the frame they are (R180). -/
theorem packedBits_of_captured {f : Frame} {t : State} (h : Captured (arriving f) 40 t) :
    packedBits t.pulse = f := by
  refine BitVec.eq_of_getLsbD_eq fun j hj => ?_
  have place : 39 - (39 - j) = j := by omega
  have bit := getLsbD_packedBits t (i := 39 - j) (by omega)
  rw [h.pairs (39 - j) (by omega), arriving, place] at bit
  exact bit

/-- Settles O47: the script `receiving c f` runs the start signal, the acknowledgement, 40 pairs that decide to the
frame's bits, and DECIDE. -/
theorem everyFrameCanBeReceived : Obligations.EveryFrameCanBeReceived := by
  intro c f
  have signal := (startSignal_receiving c f).runFor_listening
  obtain ⟨t, acknowledged, script, captured⟩ := runFor_acknowledgement
    (s := (State.inHigh { State.reset with cfg := c, script := receiving c f } (c.tStartHigh.ticks - 1) []).listening
      (sensorTicks f)) rfl rfl rfl rfl (arriving f)
  obtain ⟨u, received, script', captured'⟩ := captured.pairs_run le_rfl _ script
  have decided := runFor_one_tick script' rfl (.decideBits captured'.phase)
  have run := (runFor_add _ (3 + ((pairsTicks (arriving f) 40).length + 1)) signal).trans
    ((runFor_add 3 _ acknowledged).trans ((runFor_add _ 1 received).trans decided))
  exact ⟨receiving c f, _, _, run, rfl, packedBits_of_captured captured', captured'.code⟩

end Sys2Proof.Machine
end

section
/-! PROOFS. How long a read lasts: the ticks that are left to its end, at most and at least, and how a tick uses them
up (spec/42_sequencer.md R164). -/

namespace Sys2Proof.Machine

/-! ## The ticks left -/

/-- The ticks left in the phase itself, when a wait that goes on has `w` left. -/
def ownTicks (w : Nat) (s : State) : Nat :=
  match s.phase with
  | .idle => 0
  | .startLow | .startHigh => s.dly.toNat + 1
  | .ackFall | .ackRise | .ackEnd | .bitLow | .bitHigh => w
  | .decideBits | .check | .interp | .range | .success => 1

/-- The ticks of the phases after a phase, when every wait lasts `w` (R151, R164). -/
def ticksAfter (w : Nat) (c : Config) (p : Phase) (pair : Nat) : Nat :=
  match p with
  | .idle => 0
  | .startLow => c.tStartHigh.ticks + (83 * w + 5)
  | .startHigh => 83 * w + 5
  | .ackFall => 82 * w + 5
  | .ackRise => 81 * w + 5
  | .ackEnd => 80 * w + 5
  | .bitLow => (79 - 2 * pair) * w + 5
  | .bitHigh => (78 - 2 * pair) * w + 5
  | .decideBits => 4
  | .check => 3
  | .interp => 2
  | .range => 1
  | .success => 0

/-- The ticks after the present phase. -/
def State.after (s : State) (w : Nat) : Nat := ticksAfter w s.cfg s.phase s.bitIdx.toNat

/-- What a tick of a busy block does for the end of the read: it ends in an error, the phase goes on counting, or the
next phase begins. -/
inductive Progress (w : Nat) (s u : State) : Prop
  | ended (hp : u.phase = .idle) (hc : u.code ≠ .none) (hok : u.code ≠ .ok)
  | held (hp : s.phase = .startLow ∨ s.phase = .startHigh) (same : u.phase = s.phase) (rest : u.after w = s.after w)
      (hd : s.dly.toNat = u.dly.toNat + 1)
  | waited {target : Level} (hw : waitTarget s.phase = some target) (same : u.phase = s.phase)
      (rest : u.after w = s.after w) (hc : u.cnt.toNat = s.cnt.toNat + 1)
  | moved (hd : s.phase = .startLow ∨ s.phase = .startHigh → s.dly = 0#15)
      (hi : u.phase = .idle → u.code = .ok)
      (rest : s.after w = ownTicks w u + u.after w)

theorem progress_of_abort {w : Nat} {s v : State} (e : ErrorKind) : Progress w s (v.abortWith e) :=
  .ended rfl (errorCode_ne_none e) (errorCode_ne_ok e)

/-- One more wait. -/
theorem mul_add_of_pred {a b w : Nat} (h : a = b + 1) : a * w + 5 = w + (b * w + 5) := by
  rw [h, Nat.succ_mul]
  omega

/-- Every tick of a busy block makes progress. -/
theorem TickStep.progress {inp : Inputs} {s u : State} (w : Nat) (hu : TickStep inp s u) (h : Inv s)
    (busy : s.phase ≠ .idle) : Progress w s u := by
  have bound := h.bitIdx_le
  have notHold : ∀ {p}, s.phase = p → p ≠ .startLow → p ≠ .startHigh →
      s.phase = .startLow ∨ s.phase = .startHigh → s.dly = 0#15 := by
    rintro p hp hl hh (e | e)
    · exact absurd (hp.symm.trans e) hl
    · exact absurd (hp.symm.trans e) hh
  have after : ∀ {p}, s.phase = p → s.after w = ticksAfter w s.cfg p s.bitIdx.toNat := by
    rintro p rfl
    rfl
  cases hu with
  | rest hp => exact absurd hp busy
  | accept hp => exact absurd hp busy
  | acceptFault hp => exact absurd hp busy
  | hold hp hd =>
    obtain ⟨pred, pos⟩ := toNat_dly_sub_one hd
    exact .held hp rfl rfl (by rw [pred]; omega)
  | release hp hd hf =>
    refine .moved (fun _ => hd) (fun e => nomatch e) ((after hp).trans ?_)
    change _ = (holdPreload s.cfg.tStartHigh).toNat + 1 + _
    rw [holdPreload_toNat, Nat.sub_add_cancel s.cfg.tStartHigh.legal.1]
    rfl
  | releaseFault => exact progress_of_abort _
  | listen hp hd =>
    exact .moved (fun _ => hd) (fun e => nomatch e) ((after hp).trans (mul_add_of_pred rfl))
  | sampleFault => exact progress_of_abort _
  | wrongLevel hw hf hl hc =>
    refine .waited hw rfl rfl ?_
    have : s.cnt.toNat ≠ 255 := fun e => hc (BitVec.eq_of_toNat_eq e)
    bv_omega
  | expire => exact progress_of_abort _
  | acknowledged ha hq hw hf =>
    obtain hp | hp | hp := ack_cases ha <;> rw [hp] at hq <;> cases hq
    · exact .moved (notHold hp (by decide) (by decide)) (fun e => nomatch e)
        ((after hp).trans (mul_add_of_pred rfl))
    · exact .moved (notHold hp (by decide) (by decide)) (fun e => nomatch e)
        ((after hp).trans (mul_add_of_pred rfl))
    · have first : s.bitIdx.toNat = 0 := by rw [h.bitIdx_zero (by rw [hp]; rfl)]; rfl
      exact .moved (notHold hp (by decide) (by decide)) (fun e => nomatch e)
        ((after hp).trans (mul_add_of_pred (by rw [first])))
  | rise hp =>
    exact .moved (notHold hp (by decide) (by decide)) (fun e => nomatch e)
      ((after hp).trans (mul_add_of_pred (b := 78 - 2 * s.bitIdx.toNat) (by omega)))
  | fall hp hf hl hi =>
    obtain ⟨succ, below⟩ := toNat_bitIdx_add_one bound hi
    exact .moved (notHold hp (by decide) (by decide)) (fun e => nomatch e)
      ((after hp).trans (mul_add_of_pred (by rw [succ]; omega)))
  | lastFall hp hf hl hi =>
    refine .moved (notHold hp (by decide) (by decide)) (fun e => nomatch e)
      ((after hp).trans ?_)
    rw [hi]
    exact (congrArg (· + 5) (Nat.zero_mul w)).trans rfl
  | decideBits hp =>
    exact .moved (notHold hp (by decide) (by decide)) (fun e => nomatch e) (after hp)
  | checkPass hp =>
    exact .moved (notHold hp (by decide) (by decide)) (fun e => nomatch e) (after hp)
  | checkFail => exact progress_of_abort _
  | interp hp =>
    exact .moved (notHold hp (by decide) (by decide)) (fun e => nomatch e) (after hp)
  | rangePass hp =>
    exact .moved (notHold hp (by decide) (by decide)) (fun e => nomatch e) (after hp)
  | rangeFail => exact progress_of_abort _
  | success hp =>
    exact .moved (notHold hp (by decide) (by decide)) (fun _ => rfl) (after hp)

theorem ownTicks_of_hold {s : State} (w : Nat) (hp : s.phase = .startLow ∨ s.phase = .startHigh) :
    ownTicks w s = s.dly.toNat + 1 := by
  unfold ownTicks
  obtain hp | hp := hp <;> rw [hp]

theorem ownTicks_of_waiting {s : State} {target : Level} (w : Nat) (hw : waitTarget s.phase = some target) :
    ownTicks w s = w := by
  unfold ownTicks
  obtain ⟨hp, -⟩ | ⟨hp, -⟩ | ⟨hp, -⟩ | ⟨hp, -⟩ | ⟨hp, -⟩ := waitTarget_eq_some_cases hw <;> rw [hp]

theorem ownTicks_mono (s : State) {w w' : Nat} (h : w ≤ w') : ownTicks w s ≤ ownTicks w' s := by
  unfold ownTicks
  cases s.phase <;> simp [h]

theorem ownTicks_pos {s : State} {w : Nat} (hw : 0 < w) (busy : s.phase ≠ .idle) : 0 < ownTicks w s := by
  unfold ownTicks
  cases hp : s.phase <;> simp_all

/-! ## At most -/

/-- The ticks a busy block has left at most (R164). -/
def ticksLeft (s : State) : Nat := ownTicks (256 - s.cnt.toNat) s + s.after 256

/-- A tick of a busy block ends the read or uses up one of its ticks. -/
theorem TickStep.ticksLeft_lt {inp : Inputs} {s u : State} (hu : TickStep inp s u) (h : Inv s)
    (busy : s.phase ≠ .idle) : (u.phase = .idle ∧ u.code ≠ .none) ∨ (u.phase ≠ .idle ∧ ticksLeft u < ticksLeft s) := by
  have cnt := s.cnt.isLt
  have own := ownTicks_pos (s := s) (w := 256 - s.cnt.toNat) (by omega) busy
  unfold ticksLeft
  cases hu.progress 256 h busy with
  | ended hp hc => exact .inl ⟨hp, hc⟩
  | held hp same rest hd =>
    right
    rw [rest, same, ownTicks_of_hold _ hp, ownTicks_of_hold _ (same ▸ hp)]
    exact ⟨busy, by omega⟩
  | waited hw same rest hc =>
    right
    rw [rest, ownTicks_of_waiting _ hw, ownTicks_of_waiting _ (same ▸ hw), same]
    exact ⟨busy, by omega⟩
  | moved hd hi rest =>
    by_cases hp : u.phase = .idle
    · exact .inl ⟨hp, by rw [hi hp]; decide⟩
    · have := ownTicks_mono u (Nat.sub_le 256 u.cnt.toNat)
      exact .inr ⟨hp, by omega⟩

/-- A busy block ends its read within the ticks it has left, if the script goes that far. -/
theorem ends_within_ticksLeft (n : Nat) (s : State) (h : Inv s) (busy : s.phase ≠ .idle) (left : ticksLeft s ≤ n)
    (plain : ∀ e ∈ s.script, plainTick e = true) (length : n ≤ s.script.length) :
    ∃ k t, k ≤ n ∧ runFor k s = .next t ∧ t.phase = .idle ∧ t.code ≠ .none := by
  induction n generalizing s with
  | zero =>
    have cnt := s.cnt.isLt
    have own := ownTicks_pos (s := s) (w := 256 - s.cnt.toNat) (by omega) busy
    unfold ticksLeft at left
    omega
  | succ n ih =>
    obtain ⟨e, rest, hs⟩ := List.exists_cons_of_length_pos (Nat.lt_of_lt_of_le (Nat.succ_pos n) length)
    rw [hs] at plain length
    obtain ⟨inp, rfl, hr⟩ := (plainTick_iff e).1 (plain e List.mem_cons_self)
    obtain ⟨u, hu⟩ := tickStep_of_tick hs
    obtain ⟨hp, hc⟩ | ⟨hp, less⟩ := hu.ticksLeft_lt h busy
    · exact ⟨1, _, Nat.le_add_left 1 n, runFor_one_tick hs hr hu, hp, hc⟩
    · obtain ⟨k, t, hk, run, ended⟩ := ih { u with script := rest, tick := s.tick + 1 } { h.tickStep hu with } hp
        (Nat.le_of_lt_succ (Nat.lt_of_lt_of_le less left)) (fun e he => plain e (List.mem_cons_of_mem _ he))
        (Nat.le_of_succ_le_succ length)
      exact ⟨k + 1, t, Nat.succ_le_succ hk, (runFor_tick k hs hr hu).trans run, ended⟩

/-- After its accept tick a read has as many ticks left as R164 says. -/
theorem ticksLeft_accepted (s : State) (rest : List Event) : ticksLeft (s.accepted rest) = longestRead s.cfg := by
  have legal := s.cfg.tStartLow.legal
  change (holdPreload s.cfg.tStartLow).toNat + 1 + (s.cfg.tStartHigh.ticks + (83 * 256 + 5)) = _
  rw [holdPreload_toNat, longestRead]
  omega

/-- Settles O45: after the accept tick every tick uses up one of the ticks left. -/
theorem everyReadEndsWithinTheBound : Obligations.EveryReadEndsWithinTheBound := by
  intro s a hp plain first hs length
  obtain ⟨before, rest, script, none⟩ := exists_append_cons_of_getElem? first
  obtain rfl := List.length_eq_zero_iff.1 none
  rw [List.nil_append] at script
  obtain ⟨inp, ha, hr⟩ := (plainTick_iff _).1 (plain (.tick a) (by rw [script]; exact List.mem_cons_self))
  cases ha
  obtain hf | hf := Bool.eq_false_or_eq_true a.pinFault
  · exact ⟨0, _, Nat.zero_le _, runFor_one_tick script hr (.acceptFault hp hs hf), rfl, Code.noConfusion⟩
  · obtain ⟨k, t, hk, run, ended⟩ := ends_within_ticksLeft (longestRead s.cfg) (s.accepted rest)
      { inv_of_accept s with } Phase.noConfusion (ticksLeft_accepted s rest).le
      (fun e he => plain e (by rw [script]; exact List.mem_cons_of_mem _ he))
      (by rw [script, List.length_cons] at length; exact Nat.le_of_lt_succ length)
    exact ⟨k, t, hk, (runFor_tick k script hr (.accept hp hs hf)).trans run, ended⟩

/-! ## At least -/

/-- The steps it takes at least to record a Reading: none if there is one, a whole read and its accept tick from any
other idle block, and one tick per wait in a busy one (R164). -/
def stepsToReading (s : State) : Nat :=
  if s.phase = .idle then if s.code = .ok then 0 else shortestRead s.cfg + 1 else ownTicks 1 s + s.after 1

theorem stepsToReading_of_idle {s : State} (hp : s.phase = .idle) (hc : s.code ≠ .ok) :
    stepsToReading s = shortestRead s.cfg + 1 := by
  rw [stepsToReading, if_pos hp, if_neg hc]

theorem stepsToReading_of_busy {s : State} (hp : s.phase ≠ .idle) : stepsToReading s = ownTicks 1 s + s.after 1 :=
  if_neg hp

/-- The script, the tick number and the latch play no part. -/
theorem stepsToReading_advance (s : State) : stepsToReading s.advance = stepsToReading s := by
  unfold State.advance
  split <;> rfl

/-- No state of a run is further from a Reading than an idle block is. -/
theorem stepsToReading_le {s : State} (h : Inv s) : stepsToReading s ≤ shortestRead s.cfg + 1 := by
  unfold stepsToReading
  split_ifs with hp hc
  · exact Nat.zero_le _
  · exact le_rfl
  · have low := h.dly_low
    have high := h.dly_high
    unfold ownTicks State.after ticksAfter shortestRead
    cases hp : s.phase <;> simp only [hp, true_implies] at low high ⊢ <;> omega

/-- A busy block's tick brings a Reading nearer by at most one. -/
theorem TickStep.stepsToReading_busy {inp : Inputs} {s u : State} (hu : TickStep inp s u) (h : Inv s)
    (busy : s.phase ≠ .idle) (cfg : u.cfg = s.cfg) : stepsToReading s ≤ stepsToReading u + 1 := by
  cases hu.progress 1 h busy with
  | ended hp hc hok =>
    rw [stepsToReading_of_idle hp hok, cfg]
    exact (stepsToReading_le h).trans (Nat.le_succ _)
  | held hp same rest hd =>
    rw [stepsToReading_of_busy busy, stepsToReading_of_busy (same ▸ busy), rest, ownTicks_of_hold _ hp,
      ownTicks_of_hold _ (same ▸ hp)]
    omega
  | waited hw same rest hc =>
    rw [stepsToReading_of_busy busy, stepsToReading_of_busy (same ▸ busy), rest, ownTicks_of_waiting _ hw,
      ownTicks_of_waiting _ (same ▸ hw)]
    omega
  | moved hd hi rest =>
    have own : ownTicks 1 s ≤ 1 := by
      by_cases hp : s.phase = .startLow ∨ s.phase = .startHigh
      · rw [ownTicks_of_hold _ hp, hd hp]
        rfl
      · unfold ownTicks
        cases hq : s.phase <;> simp_all
    rw [stepsToReading_of_busy busy, rest]
    by_cases hp : u.phase = .idle
    · have done : ownTicks 1 u + u.after 1 = 0 := by simp only [ownTicks, State.after, ticksAfter, hp]
      omega
    · rw [stepsToReading_of_busy hp]
      omega

/-- In IDLE a tick keeps the block or accepts a read (R103, R150, R152). -/
theorem TickStep.eq_of_idle {s u : State} (hu : TickStep s.inputs s u) (hp : s.phase = .idle) :
    u = s ∨ u = acceptRead s := by
  have h := hu.exec_eq
  rw [hp] at h
  cases hs : s.inputs.start <;> rw [hs] at h <;> cases h
  · exact .inl rfl
  · exact .inr rfl

/-- After its accept tick a read needs as many steps as R164 says, or more if the tick has failed. -/
theorem le_stepsToReading_acceptRead (s : State) : shortestRead s.cfg ≤ stepsToReading (acceptRead s) := by
  have legal := s.cfg.tStartLow.legal
  rw [acceptRead_eq]
  split_ifs
  · exact Nat.le_succ _
  · change _ ≤ (holdPreload s.cfg.tStartLow).toNat + 1 + (s.cfg.tStartHigh.ticks + (83 * 1 + 5))
    rw [holdPreload_toNat, shortestRead]
    omega

/-- The accept step meets the invariant, failed or not (R51). -/
theorem inv_acceptRead (s : State) : Inv (acceptRead s) := by
  rw [acceptRead_eq]
  split_ifs
  · exact inv_of_acceptFault s
  · exact inv_of_accept s

/-- Every step, whatever its kind, brings a Reading nearer by at most one. -/
theorem stepsToReading_step {s t : State} (h : Inv s) (ht : step s = .next t) :
    stepsToReading s ≤ stepsToReading t + 1 := by
  have cfg := step_cfg ht
  obtain rfl | ⟨r, rfl⟩ | ⟨u, hu, rfl⟩ := step_outcomes ht <;> rw [stepsToReading_advance]
  · exact (stepsToReading_le h).trans (Nat.le_succ _)
  · exact Nat.le_succ _
  · by_cases hp : s.phase = .idle
    · obtain rfl | rfl := hu.eq_of_idle hp
      · exact Nat.le_succ _
      · exact (stepsToReading_le h).trans (Nat.succ_le_succ (le_stepsToReading_acceptRead s))
    · exact hu.stepsToReading_busy h hp ((advance_cfg u).symm.trans cfg)

/-- Along a run the invariant stays, and a Reading comes nearer by at most one a step. -/
theorem stepsToReading_run (k : Nat) {s t : State} (h : Inv s) (run : runFor k s = .next t) :
    Inv t ∧ stepsToReading s ≤ stepsToReading t + k := by
  induction k generalizing s with
  | zero =>
    cases run
    exact ⟨h, le_rfl⟩
  | succ k ih =>
    obtain ⟨u, hu⟩ := step_answers_next s
    rw [runFor_succ k hu] at run
    obtain ⟨inv, near⟩ := ih (stepKeepsTheStateInvariant s u h hu) run
    have := stepsToReading_step h hu
    exact ⟨inv, by omega⟩

/-- Settles O46: with a Reading recorded no steps are left, and each of the `k` has used up at most one. -/
theorem noReadSucceedsEarlier : Obligations.NoReadSucceedsEarlier := by
  intro s t a rest k hp hs hr hst run ok
  have accept : exec (phaseInstr s.phase a.start s.cfg.variant) s = .next (acceptRead s) := by rw [hp, hst]; rfl
  rw [runFor_succ k (step_of_tick hs hr accept)] at run
  have accepted : Inv { acceptRead s with script := rest, tick := s.tick + 1 } := { inv_acceptRead s with }
  obtain ⟨inv, near⟩ := stepsToReading_run k accepted run
  have idle : t.phase = .idle := by
    by_contra busy
    rw [inv.code_none busy] at ok
    cases ok
  have left : stepsToReading t = 0 := by rw [stepsToReading, if_pos idle, if_pos ok]
  have first := le_stepsToReading_acceptRead s
  rw [left, Nat.zero_add] at near
  exact first.trans near

end Sys2Proof.Machine
end
